-- ==== Sys2Proof/Word.lean ====
section
/-! DEFINITION. The word types of the block: the widths of rules R15, R53 and R100. -/

namespace Sys2Proof

/-- A received serial byte, `u8` (rule R53). -/
abbrev Byte := BitVec 8

/-- A 16-bit value: a width, a slot value, a duty value (`u16`), or a normalized value (`s16`, two's
complement, read with `BitVec.toInt`) (rules R15, R53). -/
abbrev Half := BitVec 16

/-- A capture timestamp field, `w[23:0]` (rule R102). A timestamp is `u(TIMER_BITS)` with
`TIMER_BITS <= 24` (rule R13), so every one fits. -/
abbrev Stamp := BitVec 24

/-- One event word (rule R100). -/
abbrev EventWord := BitVec 32

end Sys2Proof
end

