-- ==== Sys2Proof/Syntax.lean ====
section
/-! DEFINITION. The events of the block, one constructor per row of the opcode table (rule R101). -/

namespace Sys2Proof

/-- The two logical RC input channels (rule R20). -/
inductive Channel
  | ch1
  | ch2
  deriving DecidableEq, Repr

/-- An edge polarity, and the value of a capture-edge-select bit (rules R36, R102). -/
inductive Edge
  | rising
  | falling
  deriving DecidableEq, Repr

/-- The block's "instructions": its input events (rules R1, R101). -/
inductive Instr
  /-- `EDGE_RISE`: a rising edge on a channel's capture input, with its timestamp (rule R143). -/
  | edgeRise (ch : Channel) (ts : Stamp)
  /-- `EDGE_FALL`: a falling edge on a channel's capture input, with its timestamp (rule R144). -/
  | edgeFall (ch : Channel) (ts : Stamp)
  /-- `RX_BYTE`: one received serial byte (rule R170). -/
  | rxByte (b : Byte)
  /-- `TICK`: one period of the periodic tick source (rule R286). -/
  | tick
  /-- `WDT_CLOCK`: one period of the watchdog timebase (rule R284). -/
  | wdtClock
  /-- `SNAPSHOT`: the foreground's consistent diagnostic read (rule R310). -/
  | snapshot
  /-- `RESET`: external or power-on reset (rule R370). -/
  | reset
  deriving DecidableEq, Repr

end Sys2Proof
end

