-- ==== Sys2Proof/Config.lean ====
section
/-! DEFINITION. The configuration record `K` of rules R5 to R12. It is plain data, fixed before the first
event; a model takes it as an argument, and here it is the field `cfg` of `State` that no event writes
(DESIGN CHOICE, assumption 1). Parameters with a default in the spec have that default here; the OPEN ones
have none. The names are the spec's, in lower camel case. -/

namespace Sys2Proof

/-- `MIX_MODE` (rule R8). -/
inductive MixMode
  | independent
  | differential
  deriving DecidableEq, Repr

/-- The duty map between the deadband and `T_MAX`: rule R252's floor interpolation, or any other admissible
map of rule R253, given as data: entry `j` is its value at `OUT_DB + 1 + j`, for every magnitude below
`T_MAX` (assumption 7). -/
inductive DutyShape
  | interpolated
  | table (interior : List Half)
  deriving DecidableEq, Repr

/-- The configuration `K` (rules R5 to R12). -/
structure Config where
  /-- `RANGE_MIN` (rule R6). -/
  rangeMin : Nat := 800
  /-- `RANGE_MAX` (rule R6). -/
  rangeMax : Nat := 2200
  /-- `NEUTRAL_MIN` (rule R6). -/
  neutralMin : Nat := 1450
  /-- `NEUTRAL_MAX` (rule R6). -/
  neutralMax : Nat := 1550
  /-- `CENTER` (rule R6). -/
  center : Nat := 1500
  /-- `OUT_DB`, the output deadband (rule R7). -/
  outDb : Nat := 50
  /-- `T_MAX`, OPEN (rule R7). -/
  tMax : Nat
  /-- `DUTY_MIN`, OPEN (rule R7). A duty value is `u16` (rule R53; assumption 5). -/
  dutyMin : Half
  /-- `DUTY_MAX`, OPEN (rule R7). -/
  dutyMax : Half
  /-- `PWM_TOP`, OPEN: the duty value of a 100 % period (rule R7). -/
  pwmTop : Half
  /-- The duty map (rules R252, R253). -/
  dutyShape : DutyShape := .interpolated
  /-- `MIX_MODE` (rule R8). -/
  mixMode : MixMode := .differential
  /-- `INV_FWD_A` (rule R9). -/
  invFwdA : Bool := false
  /-- `INV_REV_A` (rule R9). -/
  invRevA : Bool := false
  /-- `INV_FWD_B` (rule R9). -/
  invFwdB : Bool := false
  /-- `INV_REV_B` (rule R9). -/
  invRevB : Bool := false
  /-- `TIMER_BITS`, the width of the capture timestamp (rule R10). -/
  timerBits : Nat := 16
  /-- `CAP_NUM` (rule R10). -/
  capNum : Nat := 1
  /-- `CAP_DEN` (rule R10). -/
  capDen : Nat := 1
  /-- `SYNC0` (rule R11). -/
  sync0 : Nat := 0x20
  /-- `SYNC1` (rule R11). -/
  sync1 : Nat := 0x40
  /-- `N_SLOTS` (rule R11). -/
  nSlots : Nat := 14
  /-- `CK_SEED` (rule R11). -/
  ckSeed : Nat := 0xFFFF
  /-- `SLOT_CH1`, OPEN (rule R11). -/
  slotCh1 : Nat
  /-- `SLOT_CH2`, OPEN (rule R11). -/
  slotCh2 : Nat
  /-- `WDT_LIMIT`, OPEN (rule R12); `none` is the infinite limit of a platform without the watchdog
  enabled (rule R287; assumption 6). -/
  wdtLimit : Option Nat
  deriving DecidableEq, Repr

end Sys2Proof
end

