-- ==== Sys2Proof/Machine/Admission.lean ====
section
/-! DEFINITION. Which configurations are admitted (rule R13, with rule R253 for a replaced duty map), and the
test configuration `TC` (rule R14). -/

namespace Sys2Proof

/-- What rule R253 asks of a duty map that replaces rule R252's formula, for one given as a table: a value for
every magnitude from `OUT_DB + 1` to `T_MAX - 1`, the first of them `DUTY_MIN` (P2), none above `DUTY_MAX`,
non-decreasing (P4). (P1) and (P3) hold by `dutyMap`'s own form. -/
def Config.dutyShapeOk (K : Config) : Bool :=
  match K.dutyShape with
  | .interpolated => true
  | .table vs =>
    decide (vs.length = K.tMax - (K.outDb + 1)) && decide (vs.head? = some K.dutyMin)
      && vs.all (fun v => decide (v.toNat ≤ K.dutyMax.toNat))
      && decide (vs.Pairwise (fun a b => a.toNat ≤ b.toNat))

/-- Rule R13's constraints, line for line. The parameters are unsigned, so its lower bounds of 0 hold by
their type. A configuration that is not admitted is refused with `REFUSED_CONFIG`. -/
abbrev Config.Admitted (K : Config) : Prop :=
  (K.rangeMin ≤ K.neutralMin ∧ K.neutralMin ≤ K.center ∧ K.center ≤ K.neutralMax
    ∧ K.neutralMax ≤ K.rangeMax ∧ K.rangeMax ≤ 65535)
  ∧ (K.rangeMax - K.center) + (K.center - K.rangeMin) ≤ 32767
  ∧ (K.outDb + 1 < K.tMax ∧ K.tMax ≤ 600)
  ∧ (0 < K.dutyMin.toNat ∧ K.dutyMin.toNat ≤ K.dutyMax.toNat ∧ K.dutyMax.toNat ≤ K.pwmTop.toNat)
  ∧ (1 ≤ K.timerBits ∧ K.timerBits ≤ 24)
  ∧ (1 ≤ K.capNum ∧ 1 ≤ K.capDen)
  ∧ (2 ^ K.timerBits - 1) * K.capNum / K.capDen ≤ 65535
  ∧ (1 ≤ K.nSlots ∧ K.nSlots ≤ 126)
  ∧ (1 ≤ K.slotCh1 ∧ K.slotCh1 ≤ K.nSlots ∧ 1 ≤ K.slotCh2 ∧ K.slotCh2 ≤ K.nSlots)
  ∧ (K.sync0 ≤ 255 ∧ K.sync1 ≤ 255)
  ∧ K.ckSeed ≤ 65535
  ∧ K.wdtLimit ≠ some 0
  ∧ K.dutyShapeOk = true

/-- The test configuration `TC` (rule R14): every default, and the spec's test values for the OPEN
parameters. -/
def Config.tc : Config :=
  { tMax := 551, dutyMin := 50, dutyMax := 250, pwmTop := 255, slotCh1 := 1, slotCh2 := 2, wdtLimit := some 4 }

end Sys2Proof
end

