-- ==== Sys2Proof/WellFormed.lean ====
section
/-! DEFINITION. Which events a configuration admits. Every field of an event is as wide as its encoding but
the timestamp, which the capture timer must be able to hold (rules R102, R107). -/

namespace Sys2Proof

/-- The one check on an event's operands: an edge's `ts` is below `2^TIMER_BITS` (rule R107). -/
def Instr.wellFormed (K : Config) : Instr → Bool
  | .edgeRise _ ts => decide (ts.toNat < 2 ^ K.timerBits)
  | .edgeFall _ ts => decide (ts.toNat < 2 ^ K.timerBits)
  | .rxByte _ => true
  | .tick => true
  | .wdtClock => true
  | .snapshot => true
  | .reset => true

end Sys2Proof
end

