-- ==== Sys2Proof/Decode.lean ====
section
/-! DEFINITION. The decoder of event words, total, which rejects by name (rules R100 to R108), and the encoder,
written from the same field tables. -/

namespace Sys2Proof

/-- Why a word spells no event. -/
inductive DecodeError
  /-- The opcode is 0x0 or 0x7 to 0xF (rule R105). -/
  | reservedOpcode
  /-- A reserved field of a valid opcode is not zero (rule R106). -/
  | reservedBits
  /-- An edge word's `ts` is at least `2^TIMER_BITS` (rule R107). -/
  | timestampTooWide
  deriving DecidableEq, Repr

/-- The channel an edge word's `ch` bit names: `i = ch + 1` (rule R102). -/
def channelOfBit : Bool → Channel
  | false => .ch1
  | true => .ch2

/-- The `ch` bit of a channel (rule R102). -/
def Channel.bit : Channel → BitVec 1
  | .ch1 => 0
  | .ch2 => 1

/-- The event an edge word's `pol` bit names: 1 is a rising edge (rule R102). -/
def edgeEvent (pol : Bool) (ch : Channel) (ts : Stamp) : Instr :=
  match pol with
  | true => .edgeRise ch ts
  | false => .edgeFall ch ts

/-- Bits `[27:26]` and `[23:0]` of an edge word (rule R102). -/
def decodeEdge (w : EventWord) : Except DecodeError Instr :=
  if w.extractLsb' 24 2 = 0 then
    .ok (edgeEvent (w.getLsbD 26) (channelOfBit (w.getLsbD 27)) (w.extractLsb' 0 24))
  else .error .reservedBits

/-- The byte of an `RX_BYTE` word (rule R103). -/
def decodeByte (w : EventWord) : Except DecodeError Instr :=
  if w.extractLsb' 8 20 = 0 then .ok (.rxByte (w.extractLsb' 0 8)) else .error .reservedBits

/-- An event without operands has exactly one word (rule R104). -/
def decodePlain (i : Instr) (w : EventWord) : Except DecodeError Instr :=
  if w.extractLsb' 0 28 = 0 then .ok i else .error .reservedBits

/-- The opcode map, by `w[31:28]` (rule R101), and the fields of each opcode's row. -/
def decodeFields (w : EventWord) : Except DecodeError Instr :=
  match (w.extractLsb' 28 4).toNat with
  | 1 => decodeEdge w
  | 2 => decodeByte w
  | 3 => decodePlain .tick w
  | 4 => decodePlain .wdtClock w
  | 5 => decodePlain .snapshot w
  | 6 => decodePlain .reset w
  | _ => .error .reservedOpcode

/-- The decoder: the fields of the word, then the timestamp's range (rules R100 to R108). -/
def decode (K : Config) (w : EventWord) : Except DecodeError Instr :=
  match decodeFields w with
  | .error e => .error e
  | .ok i => if i.wellFormed K then .ok i else .error .timestampTooWide

/-- The opcode of an event (rule R101). -/
def Instr.opcode : Instr → BitVec 4
  | .edgeRise _ _ => 0x1
  | .edgeFall _ _ => 0x1
  | .rxByte _ => 0x2
  | .tick => 0x3
  | .wdtClock => 0x4
  | .snapshot => 0x5
  | .reset => 0x6

/-- Bits `[27:0]` of an event's word (rules R102 to R104). -/
def Instr.operandBits : Instr → BitVec 28
  | .edgeRise ch ts => ch.bit ++ 1#1 ++ 0#2 ++ ts
  | .edgeFall ch ts => ch.bit ++ 0#1 ++ 0#2 ++ ts
  | .rxByte b => 0#20 ++ b
  | .tick => 0
  | .wdtClock => 0
  | .snapshot => 0
  | .reset => 0

/-- The encoder: the one event word of an event (rules R100 to R104). -/
def encode (i : Instr) : EventWord := i.opcode ++ i.operandBits

/-- The event the decoder reads, under the configuration of the reset state, from a word of the opcode table,
whose `nbits` bits are `w` and whose other bits are 0. An event word is consumed whole (rule R78), so there is
no byte order to lay out. -/
def decodeTableWord (nbits w : Nat) : Option Instr :=
  match decode Config.tc (BitVec.ofNat 32 (w % 2 ^ nbits)) with
  | .ok i => some i
  | .error _ => none

end Sys2Proof
end

