-- ==== Sys2Proof/Machine/Block.lean ====
section
/-! DEFINITION. The block state `S` of rule R30, field for field, its accessors by channel, and its reset
values (rule R52). -/

namespace Sys2Proof.Machine

/-- A channel record (rules R32 to R34). -/
structure ChannelInput where
  /-- The last pulse width, in normalized ticks, `u16` (rule R32). -/
  raw : Half
  /-- The normalized command, `s16` (rule R33). -/
  value : Half
  /-- The arming flag (rule R34). -/
  armed : Bool
  deriving DecidableEq, Repr

/-- A capture unit (rules R36, R37). -/
structure CaptureUnit where
  /-- The capture-edge-select bit (rule R36). -/
  edgeSel : Edge
  /-- The timestamp latched at the last selected rising edge, `u(TIMER_BITS)` (rule R37; assumption 10). -/
  rise : Stamp
  deriving DecidableEq, Repr

/-- The frame decoder's lifecycle state (rule R40). -/
inductive SerialMode
  | search
  | extract
  deriving DecidableEq, Repr

/-- The serial frame state (rules R39 to R43). -/
structure SerialFrameState where
  /-- The earlier byte of the two-byte window (rule R39). -/
  prev : Byte
  /-- The lifecycle state (rule R40). -/
  mode : SerialMode
  /-- The bytes received since the marker's second byte (rule R41). -/
  pos : Byte
  /-- The running checksum accumulator (rule R42). -/
  acc : Half
  /-- The staged value of slot `SLOT_CH1` (rule R43). -/
  stage1 : Half
  /-- The staged value of slot `SLOT_CH2` (rule R43). -/
  stage2 : Half
  deriving DecidableEq, Repr

/-- The output latch (rule R44). -/
structure OutputLatch where
  dutyA : Half
  fwdA : Bool
  revA : Bool
  dutyB : Half
  fwdB : Bool
  revB : Bool
  deriving DecidableEq, Repr

/-- The block state `S` (rule R30). -/
structure Block where
  chan1 : ChannelInput
  chan2 : ChannelInput
  cap1 : CaptureUnit
  cap2 : CaptureUnit
  /-- The capture-path enable (rule R38). -/
  capEnabled : Bool
  ser : SerialFrameState
  latch : OutputLatch
  /-- The watchdog clocks since the last kick (rule R46). -/
  wdt : Nat
  /-- The number of armed channels as of the last update cycle (rule R47). -/
  armedCount : Nat
  deriving DecidableEq, Repr

/-- `S.chan[i]`. -/
def Block.chan (b : Block) : Channel → ChannelInput
  | .ch1 => b.chan1
  | .ch2 => b.chan2

/-- `S.chan[i] <- c`. -/
def Block.setChan (b : Block) (ch : Channel) (c : ChannelInput) : Block :=
  match ch with
  | .ch1 => { b with chan1 := c }
  | .ch2 => { b with chan2 := c }

/-- `S.cap[i]`. -/
def Block.cap (b : Block) : Channel → CaptureUnit
  | .ch1 => b.cap1
  | .ch2 => b.cap2

/-- `S.cap[i] <- c`. -/
def Block.setCap (b : Block) (ch : Channel) (c : CaptureUnit) : Block :=
  match ch with
  | .ch1 => { b with cap1 := c }
  | .ch2 => { b with cap2 := c }

/-- `S.ser <- x`. -/
def Block.setSer (b : Block) (x : SerialFrameState) : Block := { b with ser := x }

/-- `S.ser.stage[i]`, the staged value of a channel's slot (rule R43). -/
def SerialFrameState.stage (x : SerialFrameState) : Channel → Half
  | .ch1 => x.stage1
  | .ch2 => x.stage2

/-- The stopped latch: duty 0 and both direction flags false on both motors (rules R44, R52). -/
def stoppedLatch : OutputLatch :=
  { dutyA := 0, fwdA := false, revA := false, dutyB := 0, fwdB := false, revB := false }

/-- The reset value of every state element (rule R52). -/
def Block.reset (K : Config) : Block :=
  { chan1 := { raw := 0, value := 0, armed := false }
    chan2 := { raw := 0, value := 0, armed := false }
    cap1 := { edgeSel := .rising, rise := 0 }
    cap2 := { edgeSel := .rising, rise := 0 }
    capEnabled := true
    ser := { prev := 0x00, mode := .search, pos := 0, acc := BitVec.ofNat 16 K.ckSeed, stage1 := 0, stage2 := 0 }
    latch := stoppedLatch
    wdt := 0
    armedCount := 0 }

end Sys2Proof.Machine
end

