-- ==== Sys2Proof/Machine/Flags.lean ====
section
/-! DEFINITION. Every flag computation the spec gives. The block has no condition codes (rule R49): its flags
are the edge-select bit, the direction flags and the count of armed flags (`armed` itself is computed by
`validate`). -/

namespace Sys2Proof.Machine

/-- The edge-select bit toggled (rule R36). -/
def otherEdge : Edge → Edge
  | .rising => .falling
  | .falling => .rising

/-- `fwd = t > OUT_DB` (rule R251). -/
def forwardFlag (K : Config) (t : Int) : Bool := decide ((K.outDb : Int) < t)

/-- `rev = t < -OUT_DB` (rule R251). -/
def reverseFlag (K : Config) (t : Int) : Bool := decide (t < -(K.outDb : Int))

/-- `[armed1] + [armed2]`, with `[b]` 1 if `b` and 0 otherwise (rules R280, R283). -/
def armedTotal (armed1 armed2 : Bool) : Nat := armed1.toNat + armed2.toNat

end Sys2Proof.Machine
end

