-- ==== Sys2Proof/Machine/Operands.lean ====
section
/-! DEFINITION. The operand forms: how the data an event carries becomes a value (rules R73, R102, R108, R145). -/

namespace Sys2Proof.Machine

/-- A 16-bit value from two consecutive bytes, the first the low byte:
`zext_16(first) | (zext_16(second) << 8)` (rule R73). -/
def littleEndian (first second : Byte) : Half :=
  first.setWidth 16 ||| (second.setWidth 16 <<< 8)

/-- The low byte of a 16-bit value (rule R110). -/
def lowByte (v : Half) : Byte := v.setWidth 8

/-- The high byte of a 16-bit value (rule R110). -/
def highByte (v : Half) : Byte := (v >>> 8).setWidth 8

/-- `(fall - rise) mod 2^TIMER_BITS`: timer ticks between two timestamps (rule R145). -/
def timerDelta (K : Config) (rise fall : Stamp) : Nat :=
  (((fall.toNat : Int) - (rise.toNat : Int)) % ((2 ^ K.timerBits : Nat) : Int)).toNat

/-- `Width(rise, fall)`: the timer ticks scaled by the pre-division factor, rounded down (rule R145). -/
def width (K : Config) (rise fall : Stamp) : Half :=
  BitVec.ofNat 16 (timerDelta K rise fall * K.capNum / K.capDen)

end Sys2Proof.Machine
end

