-- ==== Sys2Proof/Machine/Mixer.lean ====
section
/-! DEFINITION. The mixing engine, exact on integers, with no saturation (rules R230 to R233). -/

namespace Sys2Proof.Machine

/-- The two motor commands, intermediate values of one update cycle (rules R30, R230). -/
structure MotorCommands where
  mA : Int
  mB : Int
  deriving DecidableEq, Repr

/-- `Mix(c1, c2)` (rules R230 to R232). -/
def mix (K : Config) (c1 c2 : Int) : MotorCommands :=
  match K.mixMode with
  | .independent => { mA := c1, mB := c2 }
  | .differential => { mA := c1 + c2, mB := c1 - c2 }

end Sys2Proof.Machine
end

