-- ==== Sys2Proof/Machine/Output.lean ====
section
/-! DEFINITION. The output driver: direction flags, duty map, the six latch fields of a pair of commands, and the
pin levels at the boundary (rules R250 to R257). -/

namespace Sys2Proof.Machine

/-- One motor's share of the latch (rules R44, R250). -/
structure MotorOutput where
  duty : Half
  fwd : Bool
  rev : Bool
  deriving DecidableEq, Repr

/-- Rule R252's interpolation for `OUT_DB < a < T_MAX`, rounded down. -/
def interpolatedDuty (K : Config) (a : Nat) : Nat :=
  K.dutyMin.toNat
    + (a - (K.outDb + 1)) * (K.dutyMax.toNat - K.dutyMin.toNat) / (K.tMax - (K.outDb + 1))

/-- The duty map between the deadband and `T_MAX`: rule R252's, or the table of rule R253. -/
def interiorDuty (K : Config) (a : Nat) : Half :=
  match K.dutyShape with
  | .interpolated => BitVec.ofNat 16 (interpolatedDuty K a)
  | .table vs => vs.getD (a - (K.outDb + 1)) K.dutyMax

/-- `DutyMap(a)`, with `a = |t|` (rules R252, R253). -/
def dutyMap (K : Config) (a : Nat) : Half :=
  if a ≤ K.outDb then 0 else if K.tMax ≤ a then K.dutyMax else interiorDuty K a

/-- `Drive(t)` (rule R250). -/
def drive (K : Config) (t : Int) : MotorOutput :=
  { duty := dutyMap K t.natAbs, fwd := forwardFlag K t, rev := reverseFlag K t }

/-- The six latch fields, all at once, from the two motors' outputs (rules R254, R257). -/
def latchOf (a b : MotorOutput) : OutputLatch :=
  { dutyA := a.duty, fwdA := a.fwd, revA := a.rev, dutyB := b.duty, fwdB := b.fwd, revB := b.rev }

/-- The latch an update cycle commits for two channel values: mix, then drive each motor (rule R280). -/
def cycleLatch (K : Config) (c1 c2 : Int) : OutputLatch :=
  latchOf (drive K (mix K c1 c2).mA) (drive K (mix K c1 c2).mB)

/-- What the block puts out to the HAL: the four pin levels (`true` is high) and the two duty values
(rules R45, R255, R256, R345). -/
structure HalOutputs where
  pinFwdA : Bool
  pinRevA : Bool
  pinFwdB : Bool
  pinRevB : Bool
  dutyA : Half
  dutyB : Half
  deriving DecidableEq, Repr

/-- The outputs as a function of the latch and the configuration (rules R45, R255, R256). -/
def halOutputs (K : Config) (l : OutputLatch) : HalOutputs :=
  { pinFwdA := xor l.fwdA K.invFwdA
    pinRevA := xor l.revA K.invRevA
    pinFwdB := xor l.fwdB K.invFwdB
    pinRevB := xor l.revB K.invRevB
    dutyA := l.dutyA
    dutyB := l.dutyB }

end Sys2Proof.Machine
end

