-- ==== Sys2Proof/Machine/Conditions.lean ====
section
/-! DEFINITION. The conditions of rule R331: what raises each, its code and the information recorded. No block
state holds a condition; it is recorded in the observation trace. -/

namespace Sys2Proof.Machine

/-- A condition, with the information recorded for it (rule R331). -/
inductive Condition
  /-- 0x01: a width outside `[RANGE_MIN, RANGE_MAX]` reaches the validator (rule R211). -/
  | pulseOutOfRange (w : Half)
  /-- 0x02: an unarmed channel gets an in-range width outside the neutral band (rule R212). -/
  | unarmedOffNeutral (w : Half)
  /-- 0x03: a byte arrives in `SEARCH` and does not complete a marker (rule R172). -/
  | unsyncedByte (b : Byte)
  /-- 0x04: the checksum field differs from the accumulator (rule R175). -/
  | checksumMismatch (field acc : Half)
  /-- 0x05: reserved, never raised (rules R112, R331). -/
  | malformedPair
  /-- 0x06: a marker arrives while a frame is in progress, at this `ser.pos` (rule R171). -/
  | frameAbandoned (pos : Byte)
  /-- 0x07: an edge arrives after hand-over (rule R141). -/
  | captureDisabledEdge (ch : Channel)
  /-- 0x08: an edge of the polarity the unit is not waiting for (rule R142). -/
  | edgeNotSelected (ch : Channel)
  /-- 0x10: `WDT_LIMIT` watchdog clocks with no update cycle (rule R284). -/
  | watchdogTimeout
  deriving DecidableEq, Repr

/-- The condition codes of rule R331. -/
def Condition.code : Condition → Byte
  | .pulseOutOfRange _ => 0x01
  | .unarmedOffNeutral _ => 0x02
  | .unsyncedByte _ => 0x03
  | .checksumMismatch _ _ => 0x04
  | .malformedPair => 0x05
  | .frameAbandoned _ => 0x06
  | .captureDisabledEdge _ => 0x07
  | .edgeNotSelected _ => 0x08
  | .watchdogTimeout => 0x10

/-- The number rules R20 and R102 give a channel: `i = ch + 1`. -/
def channelNumber : Channel → Nat
  | .ch1 => 1
  | .ch2 => 2

/-- The "info recorded" column of rule R331, as numbers. -/
def Condition.info : Condition → List Nat
  | .pulseOutOfRange w => [w.toNat]
  | .unarmedOffNeutral w => [w.toNat]
  | .unsyncedByte b => [b.toNat]
  | .checksumMismatch field acc => [field.toNat, acc.toNat]
  | .malformedPair => []
  | .frameAbandoned pos => [pos.toNat]
  | .captureDisabledEdge ch => [channelNumber ch]
  | .edgeNotSelected ch => [channelNumber ch]
  | .watchdogTimeout => []

end Sys2Proof.Machine
end

