-- ==== Sys2Proof/Machine/State.lean ====
section
/-! DEFINITION. The state of the machine: the block state `S` of rule R30, the configuration it runs under, and
what the environment and the observer hold around it (rules R5, R17, R83, R331, R332, R373). -/

namespace Sys2Proof.Machine

/-- What `SNAPSHOT` returns (rule R310). -/
structure Snapshot where
  raw1 : Half
  value1 : Half
  armed1 : Bool
  raw2 : Half
  value2 : Half
  armed2 : Bool
  dutyA : Half
  fwdA : Bool
  revA : Bool
  dutyB : Half
  fwdB : Bool
  revB : Bool
  armedCount : Nat
  capEnabled : Bool
  deriving DecidableEq, Repr

/-- What one entry of the observation trace records (rules R17, R331). -/
inductive Observation
  /-- A condition raised by an event (rule R331). -/
  | raised (c : Condition)
  /-- `REFUSED_EVENT(w)`: the word spells no event (rules R105 to R107, R331). -/
  | refusedEvent (w : EventWord)
  /-- The value a `SNAPSHOT` returned (rules R17, R310). -/
  | returned (r : Snapshot)
  deriving DecidableEq, Repr

/-- An entry of the observation trace: the index of its event in the run, and what is recorded
(rule R331). -/
structure TraceEntry where
  index : Nat
  seen : Observation
  deriving DecidableEq, Repr

/-- The state of the machine. Only `blk` is the block's (rule R30); the other fields are the model's own. -/
structure State where
  /-- The configuration `K`, constant in a run (rule R5; assumption 1). -/
  cfg : Config
  /-- The block state `S` (rule R30). -/
  blk : Block
  /-- The platform has finished the boot list of rule R373 (assumption 9). -/
  platformReady : Bool
  /-- The event words the environment delivers next, in order (rules R83, R337; assumption 2). -/
  events : List EventWord
  /-- The index of the next event of the run `e1, e2, …` (rule R83; assumption 8). -/
  eventIndex : Nat
  /-- The observation trace, oldest entry first (rule R331; assumption 8). -/
  trace : List TraceEntry
  /-- The state-wide refusal mark (rules R105, R332; assumption 3). -/
  refusalMark : Bool
  deriving DecidableEq, Repr

/-- Why the machine stops with a fault. -/
inductive Fault
  /-- The platform delivered an event before it finished the boot list of rule R373; a platform that does so
  is outside the spec, and 93_implementation_defined.md U25 treats it as a fault. Raised by `step` only.
  Safe: the model stops where the spec gives no meaning. -/
  | eventBeforeBoot
  deriving DecidableEq, Repr

/-- Why the machine has no meaning for a step. -/
inductive Refusal
  /-- An instruction whose meaning is not written. Raised by no arm of `exec`. Safe. -/
  | notModelled (mnemonic : String)
  /-- `REFUSED_CONFIG`: the configuration breaks rule R13, so the model has no run (rule R331). Raised by
  `step` only. Safe: rule R13 gives such a configuration no meaning. -/
  | refusedConfig
  deriving DecidableEq, Repr

/-- The machine right after reset, with nothing delivered, under the configuration `K` (rules R52, R372). -/
def State.resetWith (K : Config) : State :=
  { cfg := K, blk := Block.reset K, platformReady := true, events := [], eventIndex := 1, trace := [],
    refusalMark := false }

/-- The machine right after reset under the test configuration `TC` (rule R14; assumption 1). -/
def State.reset : State := State.resetWith Config.tc

end Sys2Proof.Machine
end

