-- ==== Sys2Proof/Machine/Validator.lean ====
section
/-! DEFINITION. The signal validator, a pure function shared by both decoders (rules R210 to R214). -/

namespace Sys2Proof.Machine

/-- What `Validate` answers: the value, the new arming flag and the condition raised, if any (rule R210). -/
structure Verdict where
  value : Int
  armed : Bool
  raised : List Condition
  deriving DecidableEq, Repr

/-- `Validate(w, armed)`: the range stage (rule R211), the arming gate (rule R212), the pass stage (rule R213);
all four bounds are inclusive (rule R214). -/
def validate (K : Config) (w : Half) (armed : Bool) : Verdict :=
  if w.toNat < K.rangeMin ∨ K.rangeMax < w.toNat then
    { value := 0, armed := false, raised := [.pulseOutOfRange w] }
  else if armed = false ∧ (w.toNat < K.neutralMin ∨ K.neutralMax < w.toNat) then
    { value := 0, armed := false, raised := [.unarmedOffNeutral w] }
  else { value := (w.toNat : Int) - K.center, armed := true, raised := [] }

end Sys2Proof.Machine
end

