-- ==== Sys2Proof/Machine/Ops.lean ====
section
/-! DEFINITION. The named operations the events share: the update cycle and its steps, the write of a validated
width, the gate of the capture path, the system reset, and how an event's effect enters the state. There is no
addressable memory (rule R70), so there is no memory operation. -/

namespace Sys2Proof.Machine

/-- What processing one event yields: the block state after it, the conditions it raised, in order, and, for
`SNAPSHOT` only, a returned value (rule R17). -/
structure Effect where
  blk : Block
  raised : List Condition := []
  returned : Option Snapshot := none
  deriving DecidableEq, Repr

/-- `S.chan[i].raw <- w`, then `(v, a) <- Validate(w, S.chan[i].armed)` into `value` and `armed`: what both
decoders do with a width (rules R144, R176). -/
def acceptWidth (K : Config) (ch : Channel) (w : Half) (b : Block) : Block :=
  let v := validate K w (b.chan ch).armed
  b.setChan ch { raw := w, value := BitVec.ofInt 16 v.value, armed := v.armed }

/-- The condition `Validate` raises on a width that reaches a channel (rules R210, R338). -/
def acceptRaises (K : Config) (ch : Channel) (w : Half) (b : Block) : List Condition :=
  (validate K w (b.chan ch).armed).raised

/-- `Latch(...)`: the atomic commit of all six output fields (rule R254). -/
def commitLatch (l : OutputLatch) (b : Block) : Block := { b with latch := l }

/-- `Kick()`: restart the watchdog window (rule R282). -/
def kick (b : Block) : Block := { b with wdt := 0 }

/-- The armed count at the end of an update cycle (rule R283). -/
def countArmed (b : Block) : Block := { b with armedCount := armedTotal b.chan1.armed b.chan2.armed }

/-- `UpdateCycle()`: mix, drive, latch, kick, armed count (rule R280). -/
def updateCycle (K : Config) (b : Block) : Block :=
  countArmed (kick (commitLatch (cycleLatch K b.chan1.value.toInt b.chan2.value.toInt) b))

/-- The two tests every edge event makes first, in this order: is the capture path enabled (rule R141), is the
edge the selected one (rule R142). The condition of the first that fails, if one does. -/
def captureGate (ch : Channel) (pol : Edge) (b : Block) : Option Condition :=
  if b.capEnabled = false then some (.captureDisabledEdge ch)
  else if pol ≠ (b.cap ch).edgeSel then some (.edgeNotSelected ch)
  else none

/-- What forces a system reset (rules R371, R342). -/
inductive ResetCause
  | external
  | watchdog
  deriving DecidableEq, Repr

/-- `SystemReset(cause)`: every state element takes its reset value; nothing is saved and no cause is recorded
(rules R16, R285, R342, R371, R374). This is the block's one trap-like entry; it has no return (rules R340,
R342). -/
def systemReset (K : Config) (_cause : ResetCause) : Block := Block.reset K

/-- Has the watchdog count reached its limit? An infinite limit is never reached (rules R284, R287). -/
def limitReached (K : Config) (count : Nat) : Bool :=
  match K.wdtLimit with
  | none => false
  | some limit => decide (limit ≤ count)

/-- The record `SNAPSHOT` returns (rule R310). -/
def snapshotOf (b : Block) : Snapshot :=
  { raw1 := b.chan1.raw, value1 := b.chan1.value, armed1 := b.chan1.armed
    raw2 := b.chan2.raw, value2 := b.chan2.value, armed2 := b.chan2.armed
    dutyA := b.latch.dutyA, fwdA := b.latch.fwdA, revA := b.latch.revA
    dutyB := b.latch.dutyB, fwdB := b.latch.fwdB, revB := b.latch.revB
    armedCount := b.armedCount, capEnabled := b.capEnabled }

/-- What an effect adds to the observation trace: its conditions in order, then the returned value
(rules R17, R331). -/
def Effect.entries (e : Effect) (index : Nat) : List TraceEntry :=
  e.raised.map (fun c => { index := index, seen := .raised c })
    ++ (e.returned.map (fun r => { index := index, seen := .returned r })).toList

/-- The state after an event with this effect (rules R17, R331). -/
def State.afterEvent (s : State) (e : Effect) : State :=
  { s with blk := e.blk, trace := s.trace ++ e.entries s.eventIndex }

/-- `REFUSED_EVENT(w)`: the refusal mark is set and the refusal recorded; the block state does not change
(rules R105, R331, R332; assumption 3). -/
def State.refuseEvent (s : State) (w : EventWord) : State :=
  { s with trace := s.trace ++ [{ index := s.eventIndex, seen := .refusedEvent w }], refusalMark := true }

/-- The first waiting event word and the state with it consumed (rules R78, R336). -/
def State.fetch (s : State) : Option (EventWord × State) :=
  match s.events with
  | [] => none
  | w :: rest => some (w, { s with events := rest })

/-- The event is done: the next one has the next index (rules R83, R331). -/
def State.retire (s : State) : State := { s with eventIndex := s.eventIndex + 1 }

/-- Put an event word where the next step takes its event: first in line, at a platform that has finished
boot (assumptions 2 and 9). -/
def State.deliver (s : State) (w : EventWord) : State :=
  { s with events := w :: s.events, platformReady := true }

end Sys2Proof.Machine
end

