-- ==== Sys2Proof/Machine/Capture.lean ====
section
/-! DEFINITION. The pulse capture decoders: `EDGE_RISE` and `EDGE_FALL` (rules R140 to R147). -/

namespace Sys2Proof.Machine

/-- A selected rising edge on channel `ch`: latch the timestamp and wait for the falling edge (rule R143). -/
def latchRise (ch : Channel) (ts : Stamp) (b : Block) : Block :=
  b.setCap ch { edgeSel := otherEdge (b.cap ch).edgeSel, rise := ts }

/-- A selected falling edge on channel `ch`, up to the validated width: the edge-select bit toggles and the
measured width goes to the channel (rule R144). -/
def measurePulse (K : Config) (ch : Channel) (ts : Stamp) (b : Block) : Block :=
  acceptWidth K ch (width K (b.cap ch).rise ts)
    (b.setCap ch { (b.cap ch) with edgeSel := otherEdge (b.cap ch).edgeSel })

/-- What `EDGE_RISE` does to the block (rule R143). -/
def edgeRiseEffect (ch : Channel) (ts : Stamp) (b : Block) : Effect :=
  match captureGate ch .rising b with
  | some c => { blk := b, raised := [c] }
  | none => { blk := latchRise ch ts b }

/-- What `EDGE_FALL` does to the block. The update cycle runs whatever the validator answers
(rules R144, R146). -/
def edgeFallEffect (K : Config) (ch : Channel) (ts : Stamp) (b : Block) : Effect :=
  match captureGate ch .falling b with
  | some c => { blk := b, raised := [c] }
  | none =>
    { blk := updateCycle K (measurePulse K ch ts b)
      raised := acceptRaises K ch (width K (b.cap ch).rise ts) b }

/-- `EDGE_RISE` (rule R143). -/
def execEdgeRise (ch : Channel) (ts : Stamp) (s : State) : Host.Outcome State Fault Refusal :=
  .next (s.afterEvent (edgeRiseEffect ch ts s.blk))

/-- `EDGE_FALL` (rule R144). -/
def execEdgeFall (ch : Channel) (ts : Stamp) (s : State) : Host.Outcome State Fault Refusal :=
  .next (s.afterEvent (edgeFallEffect s.cfg ch ts s.blk))

end Sys2Proof.Machine
end

