-- ==== Sys2Proof/Machine/Diagnostic.lean ====
section
/-! DEFINITION. The diagnostic snapshot port: `SNAPSHOT` (rules R310 to R312). -/

namespace Sys2Proof.Machine

/-- What `SNAPSHOT` yields: the block unchanged and the record of its shared fields (rule R310). -/
def snapshotEffect (b : Block) : Effect := { blk := b, returned := some (snapshotOf b) }

/-- `SNAPSHOT` (rule R310). -/
def execSnapshot (s : State) : Host.Outcome State Fault Refusal :=
  .next (s.afterEvent (snapshotEffect s.blk))

end Sys2Proof.Machine
end

