-- ==== Sys2Proof/Machine/ResetEvent.lean ====
section
/-! DEFINITION. The reset event: `RESET` (rules R370 to R374). -/

namespace Sys2Proof.Machine

/-- What `RESET` does to the block (rule R370). -/
def resetEffect (K : Config) : Effect := { blk := systemReset K .external }

/-- `RESET` (rule R370). -/
def execReset (s : State) : Host.Outcome State Fault Refusal := .next (s.afterEvent (resetEffect s.cfg))

end Sys2Proof.Machine
end

