-- ==== Sys2Proof/Machine/Serial.lean ====
section
/-! DEFINITION. The serial frame synchronizer and checksum validator: `RX_BYTE` and its steps (rules R170 to
R177). -/

namespace Sys2Proof.Machine

/-- Does this byte complete a marker, with the window's previous byte (rule R171)? -/
def completesMarker (K : Config) (x : SerialFrameState) (byte : Byte) : Bool :=
  decide (x.prev.toNat = K.sync0) && decide (byte.toNat = K.sync1)

/-- `Marker(b)`: resynchronize, abandoning a frame in progress (rule R171). -/
def markerStep (K : Config) (byte : Byte) (b : Block) : Effect :=
  { blk := b.setSer { b.ser with mode := .extract, pos := 0, acc := BitVec.ofNat 16 K.ckSeed, prev := byte }
    raised := match b.ser.mode with
      | .extract => [.frameAbandoned b.ser.pos]
      | .search => [] }

/-- `Search(b)`: only the window moves (rule R172). -/
def searchStep (byte : Byte) (b : Block) : Effect :=
  { blk := b.setSer { b.ser with prev := byte }, raised := [.unsyncedByte byte] }

/-- The first byte of a pair, at an odd position, is only stored in the window (rule R173). -/
def firstByteStep (byte : Byte) (b : Block) : Effect :=
  { blk := b.setSer { b.ser with prev := byte } }

/-- `Slot(k, v, b)`: both bytes leave the accumulator, and a configured slot's value is staged (rule R174). -/
def slotStep (K : Config) (k : Nat) (v : Half) (byte : Byte) (b : Block) : Effect :=
  { blk := b.setSer { b.ser with
      acc := b.ser.acc - b.ser.prev.setWidth 16 - byte.setWidth 16
      stage1 := if k = K.slotCh1 then v else b.ser.stage1
      stage2 := if k = K.slotCh2 then v else b.ser.stage2
      prev := byte } }

/-- `Commit()`: each staged value becomes its channel's width, channel 1 first (rule R176). -/
def commitFrame (K : Config) (b : Block) : Block :=
  acceptWidth K .ch2 b.ser.stage2 (acceptWidth K .ch1 b.ser.stage1 b)

/-- The conditions a commit raises, channel 1 first (rules R176, R338). -/
def commitRaises (K : Config) (b : Block) : List Condition :=
  acceptRaises K .ch1 b.ser.stage1 b
    ++ acceptRaises K .ch2 b.ser.stage2 (acceptWidth K .ch1 b.ser.stage1 b)

/-- `Handover()`: the capture path is disabled, for good but for a reset (rules R177, R183). -/
def handover (b : Block) : Block := { b with capEnabled := false }

/-- `Checksum(v, b)`: the frame ends; it is committed if its checksum is right and discarded otherwise
(rule R175). -/
def checksumStep (K : Config) (v : Half) (byte : Byte) (b : Block) : Effect :=
  let ended := b.setSer { b.ser with mode := .search, prev := byte }
  if v = b.ser.acc then
    { blk := handover (updateCycle K (commitFrame K ended)), raised := commitRaises K ended }
  else { blk := ended, raised := [.checksumMismatch v b.ser.acc] }

/-- Every byte of a frame that is not part of a marker increments the position (rule R173). -/
def movePosition (b : Block) : Block := b.setSer { b.ser with pos := b.ser.pos + 1 }

/-- A byte inside a frame: the position moves, and the byte at an even position ends a slot or the frame
(rules R170, R173). -/
def extractStep (K : Config) (byte : Byte) (b : Block) : Effect :=
  let pos := (b.ser.pos + 1).toNat
  if pos % 2 = 1 then firstByteStep byte (movePosition b)
  else if pos / 2 ≤ K.nSlots then slotStep K (pos / 2) (littleEndian b.ser.prev byte) byte (movePosition b)
  else checksumStep K (littleEndian b.ser.prev byte) byte (movePosition b)

/-- What `RX_BYTE` does to the block: the steps of rule R170, in the order they are tried. -/
def rxByteEffect (K : Config) (byte : Byte) (b : Block) : Effect :=
  if completesMarker K b.ser byte = true then markerStep K byte b
  else match b.ser.mode with
    | .search => searchStep byte b
    | .extract => extractStep K byte b

/-- `RX_BYTE` (rule R170). -/
def execRxByte (byte : Byte) (s : State) : Host.Outcome State Fault Refusal :=
  .next (s.afterEvent (rxByteEffect s.cfg byte s.blk))

end Sys2Proof.Machine
end

