-- ==== Sys2Proof/Machine/Supervisor.lean ====
section
/-! DEFINITION. The tick and the watchdog-reset sequencer: `TICK` and `WDT_CLOCK` (rules R284 to R287). -/

namespace Sys2Proof.Machine

/-- What `TICK` does to the block: nothing. The status indicator it drives is out of scope (rule R286). -/
def tickEffect (b : Block) : Effect := { blk := b }

/-- What `WDT_CLOCK` does to the block: count, and reset the block when the count reaches the limit
(rules R284, R285). -/
def wdtClockEffect (K : Config) (b : Block) : Effect :=
  if limitReached K (b.wdt + 1) = true then
    { blk := systemReset K .watchdog, raised := [.watchdogTimeout] }
  else { blk := { b with wdt := b.wdt + 1 } }

/-- `TICK` (rule R286). -/
def execTick (s : State) : Host.Outcome State Fault Refusal := .next (s.afterEvent (tickEffect s.blk))

/-- `WDT_CLOCK` (rule R284). -/
def execWdtClock (s : State) : Host.Outcome State Fault Refusal :=
  .next (s.afterEvent (wdtClockEffect s.cfg s.blk))

end Sys2Proof.Machine
end

