-- ==== Sys2Proof/Machine/Dispatch.lean ====
section
/-! DEFINITION. One arm per event: the meaning it runs. -/

namespace Sys2Proof.Machine

def exec (i : Instr) (s : State) : Host.Outcome State Fault Refusal :=
  match i with
  | .edgeRise ch ts => Sys2Proof.Machine.execEdgeRise ch ts s
  | .edgeFall ch ts => Sys2Proof.Machine.execEdgeFall ch ts s
  | .rxByte b => Sys2Proof.Machine.execRxByte b s
  | .tick => Sys2Proof.Machine.execTick s
  | .wdtClock => Sys2Proof.Machine.execWdtClock s
  | .snapshot => Sys2Proof.Machine.execSnapshot s
  | .reset => Sys2Proof.Machine.execReset s

end Sys2Proof.Machine
end

