-- ==== Sys2Proof/Machine/Process.lean ====
section
/-! DEFINITION. What one step does: take the next event word, decode it, run its event (rules R17, R80). -/

namespace Sys2Proof.Machine

/-- Process a fetched event word: run the event it spells, or refuse it (rules R17, R105). The state is the one
with the word consumed. -/
def processWord (w : EventWord) (s : State) : Host.Outcome State Fault Refusal :=
  match decode s.cfg w with
  | .error _ => .next (s.refuseEvent w).retire
  | .ok i =>
    match exec i s with
    | .next t => .next t.retire
    | .fault r => .fault r
    | .refused r => .refused r

/-- Take the next event word, if there is one. With none waiting, the block waits and keeps its state
(rules R348, R372). An event at a platform that has not finished boot is outside the spec (rule R373). -/
def takeEvent (s : State) : Host.Outcome State Fault Refusal :=
  match s.fetch with
  | none => .next s
  | some (w, t) => if s.platformReady then processWord w t else .fault .eventBeforeBoot

/-- A configuration that rule R13 does not admit has no run (rule R331). -/
def advance (s : State) : Host.Outcome State Fault Refusal :=
  if s.cfg.Admitted then takeEvent s else .refused .refusedConfig

end Sys2Proof.Machine
end

