-- ==== Sys2Proof/Machine/Step.lean ====
section
/-! DEFINITION. One step of the machine: one event, whole (rules R17, R80), and how the host puts an event word
in front of it. -/

namespace Sys2Proof.Machine

/-- One step. -/
def step (s : State) : Host.Outcome State Fault Refusal := advance s

/-- `s` with the event word whose `nbits` bits are `w`, and whose other bits are 0, first in line
(assumption 2). -/
def State.withFetchWord (s : State) (nbits w : Nat) : State :=
  s.deliver (BitVec.ofNat 32 (w % 2 ^ nbits))

end Sys2Proof.Machine
end

