-- ==== Sys2Proof/Machine/Frame.lean ====
section
/-! DEFINITION. The serial frame format (rules R110, R111, R179): what a transmitter sends. -/

namespace Sys2Proof.Machine

/-- The payload bytes of a frame: each slot's low byte, then its high byte (rule R110). -/
def payloadBytes (slots : List Half) : List Byte := slots.flatMap (fun v => [lowByte v, highByte v])

/-- The sum of a list of bytes, as a number. -/
def byteSum (bytes : List Byte) : Nat := (bytes.map BitVec.toNat).sum

/-- `(CK_SEED - Σ bytes) mod 2^16` (rule R111). -/
def checksumOf (K : Config) (bytes : List Byte) : Half :=
  BitVec.ofInt 16 ((K.ckSeed : Int) - (byteSum bytes : Int))

/-- The two bytes of the sync marker (rules R20, R110). -/
def markerBytes (K : Config) : List Byte := [BitVec.ofNat 8 K.sync0, BitVec.ofNat 8 K.sync1]

/-- A frame with these slots and this checksum field (rule R110). -/
def frameWith (K : Config) (field : Half) (slots : List Half) : List Byte :=
  markerBytes K ++ payloadBytes slots ++ [lowByte field, highByte field]

/-- A frame with its right checksum (rules R110, R111). -/
def frameBytes (K : Config) (slots : List Half) : List Byte :=
  frameWith K (checksumOf K (payloadBytes slots)) slots

/-- Does the byte sequence `SYNC0, SYNC1` occur in these bytes, the first of them after `prev`? (rules R171,
R180.) -/
def hasMarker (K : Config) (prev : Byte) : List Byte → Bool
  | [] => false
  | x :: rest => (decide (prev.toNat = K.sync0) && decide (x.toNat = K.sync1)) || hasMarker K x rest

end Sys2Proof.Machine
end

