-- ==== Sys2Proof/Machine/Script.lean ====
section
/-! DEFINITION. The event-script notation of test programs: its lines, the words each stands for, and the reader
of its text (rules R114, R115). It has no hardware meaning. -/

namespace Sys2Proof.Machine

/-- A line of a script: an event, or a pseudo-event that expands into a sequence (rules R114, R115). -/
inductive ScriptLine
  | edge (ch : Channel) (pol : Edge) (ts : Nat)
  | rx (byte : Nat)
  | tick
  | wdt
  | snap
  | reset
  | pulse (ch : Channel) (t0 len : Nat)
  | frame (slots : List Nat)
  | framebad (field : Nat) (slots : List Nat)
  | rxs (bytes : List Nat)
  deriving DecidableEq, Repr

/-- The words of the `edge` lines (rule R114). -/
def edgeWord (ch : Channel) (pol : Edge) (ts : Nat) : EventWord :=
  (match ch, pol with
    | .ch1, .rising => 0x14000000
    | .ch2, .rising => 0x1C000000
    | .ch1, .falling => 0x10000000
    | .ch2, .falling => 0x18000000) ||| BitVec.ofNat 32 ts

/-- The word of an `rx` line (rule R114). -/
def rxWord (byte : Nat) : EventWord := 0x20000000 ||| BitVec.ofNat 32 byte

/-- The words of received bytes, in order. -/
def byteWords (bytes : List Byte) : List EventWord := bytes.map (fun x => rxWord x.toNat)

/-- The event words a line stands for (rules R114, R115). -/
def scriptWords (K : Config) : ScriptLine → List EventWord
  | .edge ch pol ts => [edgeWord ch pol ts]
  | .rx byte => [rxWord byte]
  | .tick => [0x30000000]
  | .wdt => [0x40000000]
  | .snap => [0x50000000]
  | .reset => [0x60000000]
  | .pulse ch t0 len => [edgeWord ch .rising t0, edgeWord ch .falling ((t0 + len) % 2 ^ K.timerBits)]
  | .frame slots => byteWords (frameBytes K (slots.map (BitVec.ofNat 16)))
  | .framebad field slots => byteWords (frameWith K (BitVec.ofNat 16 field) (slots.map (BitVec.ofNat 16)))
  | .rxs bytes => bytes.map rxWord

/-- The part of a line before a comment (rule R114). -/
def dropComment : List Char → List Char
  | [] => []
  | c :: rest => if c = ';' then [] else c :: dropComment rest

/-- The words of a line, separated by blanks. -/
def splitTokens : List Char → List (List Char)
  | [] => [[]]
  | c :: rest =>
    if c = ' ' ∨ c = '\t' ∨ c = '\r' then [] :: splitTokens rest
    else match splitTokens rest with
      | [] => [[c]]
      | t :: ts => (c :: t) :: ts

/-- The non-empty words of a line without its comment. -/
def lineTokens (line : List Char) : List (List Char) :=
  (splitTokens (dropComment line)).filter (fun t => !t.isEmpty)

/-- The value of a digit in a base up to 16. -/
def digitValue (base : Nat) (c : Char) : Option Nat :=
  let d :=
    if 48 ≤ c.toNat ∧ c.toNat ≤ 57 then c.toNat - 48
    else if 97 ≤ c.toNat ∧ c.toNat ≤ 102 then c.toNat - 87
    else if 65 ≤ c.toNat ∧ c.toNat ≤ 70 then c.toNat - 55
    else 16
  if d < base then some d else none

/-- The value of a digit string, most significant digit first, continuing from `acc`. -/
def digitsValue (base : Nat) : Nat → List Char → Option Nat
  | acc, [] => some acc
  | acc, c :: rest =>
    match digitValue base c with
    | some d => digitsValue base (acc * base + d) rest
    | none => none

/-- A number: decimal, or `0x` hexadecimal (rule R114). -/
def readNumber : List Char → Option Nat
  | [] => none
  | '0' :: 'x' :: [] => none
  | '0' :: 'x' :: ds => digitsValue 16 0 ds
  | ds => digitsValue 10 0 ds

/-- `ch1` or `ch2`. -/
def readChannel : List Char → Option Channel
  | ['c', 'h', '1'] => some .ch1
  | ['c', 'h', '2'] => some .ch2
  | _ => none

/-- `rise` or `fall`. -/
def readEdge : List Char → Option Edge
  | ['r', 'i', 's', 'e'] => some .rising
  | ['f', 'a', 'l', 'l'] => some .falling
  | _ => none

/-- Read a line from its words (rules R114, R115). -/
def readTokens : List (List Char) → Option ScriptLine
  | ['e', 'd', 'g', 'e'] :: [ch, pol, ts] =>
    match readChannel ch, readEdge pol, readNumber ts with
    | some c, some p, some n => some (.edge c p n)
    | _, _, _ => none
  | ['r', 'x'] :: [x] => (readNumber x).map .rx
  | [['t', 'i', 'c', 'k']] => some .tick
  | [['w', 'd', 't']] => some .wdt
  | [['s', 'n', 'a', 'p']] => some .snap
  | [['r', 'e', 's', 'e', 't']] => some .reset
  | ['p', 'u', 'l', 's', 'e'] :: [ch, t0, len] =>
    match readChannel ch, readNumber t0, readNumber len with
    | some c, some t, some n => some (.pulse c t n)
    | _, _, _ => none
  | ['f', 'r', 'a', 'm', 'e'] :: vs => (vs.mapM readNumber).map .frame
  | ['f', 'r', 'a', 'm', 'e', 'b', 'a', 'd'] :: field :: vs =>
    match readNumber field, vs.mapM readNumber with
    | some c, some slots => some (.framebad c slots)
    | _, _ => none
  | ['r', 'x', 's'] :: vs => (vs.mapM readNumber).map .rxs
  | _ => none

/-- Do a line's numbers fit what they stand for: a timestamp its field, a byte 8 bits, a slot or checksum
16 bits, and a frame exactly `N_SLOTS` values (rules R102, R103, R110, R115; assumption 15)? -/
def lineFits (K : Config) : ScriptLine → Bool
  | .edge _ _ ts => decide (ts < 2 ^ 24)
  | .rx byte => decide (byte < 256)
  | .tick => true
  | .wdt => true
  | .snap => true
  | .reset => true
  | .pulse _ t0 _ => decide (t0 < 2 ^ 24)
  | .frame slots => decide (slots.length = K.nSlots) && slots.all (fun v => decide (v < 65536))
  | .framebad field slots =>
    decide (field < 65536) && decide (slots.length = K.nSlots) && slots.all (fun v => decide (v < 65536))
  | .rxs bytes => bytes.all (fun x => decide (x < 256))

/-- The event words of one line of text; a line with nothing but a comment stands for none (rule R114). -/
def readLine (K : Config) (line : List Char) : Option (List EventWord) :=
  match lineTokens line with
  | [] => some []
  | ts =>
    match readTokens ts with
    | some l => if lineFits K l = true then some (scriptWords K l) else none
    | none => none

/-- The lines of a text. -/
def splitLines : List Char → List (List Char)
  | [] => [[]]
  | c :: rest =>
    if c = '\n' then [] :: splitLines rest
    else match splitLines rest with
      | [] => [[c]]
      | l :: ls => (c :: l) :: ls

/-- The event words of a script (rules R114, R115). -/
def readScript (K : Config) (text : List Char) : Option (List EventWord) :=
  ((splitLines text).mapM (readLine K)).map List.flatten

end Sys2Proof.Machine
end

