-- ==== Sys2Proof/Machine/Sources.lean ====
section
/-! DEFINITION. The event sources, their enables and the two contexts (rules R334, R335, R343). They are views
of an event and of the block state; no state is held for them (rules R336, R343). -/

namespace Sys2Proof.Machine

/-- The interrupt sources of rule R334. -/
inductive Source
  | capture (ch : Channel)
  | serialReceiver
  | tickSource
  | watchdogTimebase
  | resetInput
  deriving DecidableEq, Repr

/-- The source that delivers an event; `SNAPSHOT` is not an interrupt (rule R334). -/
def sourceOf : Instr → Option Source
  | .edgeRise ch _ => some (.capture ch)
  | .edgeFall ch _ => some (.capture ch)
  | .rxByte _ => some .serialReceiver
  | .tick => some .tickSource
  | .wdtClock => some .watchdogTimebase
  | .snapshot => none
  | .reset => some .resetInput

/-- The polarity of an edge event (rules R102, R142). -/
def polarityOf : Instr → Option Edge
  | .edgeRise _ _ => some .rising
  | .edgeFall _ _ => some .falling
  | .rxByte _ => none
  | .tick => none
  | .wdtClock => none
  | .snapshot => none
  | .reset => none

/-- Is a source's interrupt enabled for an event of this polarity? `capEnabled` masks both capture sources
together and the edge-select bit masks the other polarity; nothing else can be masked (rules R334, R335). -/
def sourceEnabled (b : Block) (polarity : Option Edge) : Source → Bool
  | .capture ch => b.capEnabled && decide (polarity = some (b.cap ch).edgeSel)
  | .serialReceiver => true
  | .tickSource => true
  | .watchdogTimebase => true
  | .resetInput => true

/-- The two execution contexts (rule R343). -/
inductive Context
  | interrupt
  | foreground
  deriving DecidableEq, Repr

/-- The context that processes an event: the foreground issues `SNAPSHOT`, the interrupt context processes every
other event (rules R83, R343). -/
def contextOf : Instr → Context
  | .edgeRise _ _ => .interrupt
  | .edgeFall _ _ => .interrupt
  | .rxByte _ => .interrupt
  | .tick => .interrupt
  | .wdtClock => .interrupt
  | .snapshot => .foreground
  | .reset => .interrupt

end Sys2Proof.Machine
end

