-- ==== Sys2Proof/Safety.lean ====
section
/-! DEFINITION. What counts as a good state, in the terms claims use: the invariants the rules state or derive,
which state an observer cannot see, and what an event leaves alone. -/

namespace Sys2Proof.Machine

/-- The invariants of the block state between events. -/
structure Block.Inv (K : Config) (b : Block) : Prop where
  /-- A value lies in `[RANGE_MIN - CENTER, RANGE_MAX - CENTER]` (rules R33, R215). -/
  valueRange : ∀ ch, (K.rangeMin : Int) - K.center ≤ (b.chan ch).value.toInt
    ∧ (b.chan ch).value.toInt ≤ (K.rangeMax : Int) - K.center
  /-- An unarmed channel's value is 0 (rule R35). -/
  unarmedZero : ∀ ch, (b.chan ch).armed = false → (b.chan ch).value = 0
  /-- An armed channel's value is its last width, which is in range, less `CENTER` (rules R32, R213). -/
  armedValue : ∀ ch, (b.chan ch).armed = true →
    K.rangeMin ≤ (b.chan ch).raw.toNat ∧ (b.chan ch).raw.toNat ≤ K.rangeMax
      ∧ (b.chan ch).value.toInt = ((b.chan ch).raw.toNat : Int) - K.center
  /-- A latched timestamp fits the capture timer (rule R37). -/
  riseFits : ∀ ch, (b.cap ch).rise.toNat < 2 ^ K.timerBits
  /-- The frame position stays in its legal range (rule R41), and below its end inside a frame (rule R173). -/
  posBound : b.ser.pos.toNat ≤ 2 * (K.nSlots + 1)
    ∧ (b.ser.mode = .extract → b.ser.pos.toNat < 2 * (K.nSlots + 1))
  /-- The watchdog count stays below its limit (rule R46). -/
  wdtBelow : ∀ limit, K.wdtLimit = some limit → b.wdt < limit
  /-- The armed count is the live count (rule R283). -/
  countLive : b.armedCount = armedTotal b.chan1.armed b.chan2.armed
  /-- The latch holds `Drive(Mix(chan values))` (rules R288, R311). -/
  latchCurrent : b.latch = cycleLatch K b.chan1.value.toInt b.chan2.value.toInt

/-- A good state of the machine: an admitted configuration and a good block state. -/
def State.Inv (s : State) : Prop := s.cfg.Admitted ∧ s.blk.Inv s.cfg

/-- The two block states differ at most in what no event can read before it is written again: a timestamp while
its unit waits for a rising edge (rule R37), the position and the accumulator outside a frame (rules R42, R175),
a staged value before its slot has come (rule R43). -/
structure Block.Indistinct (K : Config) (b c : Block) : Prop where
  chan : ∀ ch, b.chan ch = c.chan ch
  edgeSel : ∀ ch, (b.cap ch).edgeSel = (c.cap ch).edgeSel
  rise : ∀ ch, (b.cap ch).edgeSel = .falling → (b.cap ch).rise = (c.cap ch).rise
  capEnabled : b.capEnabled = c.capEnabled
  prev : b.ser.prev = c.ser.prev
  mode : b.ser.mode = c.ser.mode
  pos : b.ser.mode = .extract → b.ser.pos = c.ser.pos
  acc : b.ser.mode = .extract → b.ser.acc = c.ser.acc
  stage1 : b.ser.mode = .extract → 2 * K.slotCh1 ≤ b.ser.pos.toNat → b.ser.stage1 = c.ser.stage1
  stage2 : b.ser.mode = .extract → 2 * K.slotCh2 ≤ b.ser.pos.toNat → b.ser.stage2 = c.ser.stage2
  latch : b.latch = c.latch
  wdt : b.wdt = c.wdt
  armedCount : b.armedCount = c.armedCount

/-- The block states agree outside the serial frame state: nothing a frame in progress may change (rules R175,
R179). -/
def Block.sameOutsideSerial (b c : Block) : Prop := { b with ser := c.ser } = c

/-- What surrounds the block is the same in both states, but for the trace: an event changes none of it. -/
def State.sameRun (s t : State) : Prop :=
  t.cfg = s.cfg ∧ t.platformReady = s.platformReady ∧ t.events = s.events ∧ t.eventIndex = s.eventIndex
    ∧ t.refusalMark = s.refusalMark

/-- The trace entries of these conditions, raised by the event that runs in `s` (rule R331). -/
def State.raisedNow (s : State) (cs : List Condition) : List TraceEntry :=
  cs.map (fun c => { index := s.eventIndex, seen := .raised c })

/-- This byte ends a valid frame: it completes no marker, a frame is in progress, it is the second byte of the
pair after the last slot, and that pair equals the accumulator (rules R170, R175). -/
def completesFrame (K : Config) (b : Block) (byte : Byte) : Prop :=
  ¬ (b.ser.prev.toNat = K.sync0 ∧ byte.toNat = K.sync1) ∧ b.ser.mode = .extract
    ∧ (b.ser.pos + 1).toNat % 2 = 0 ∧ K.nSlots < (b.ser.pos + 1).toNat / 2
    ∧ b.ser.prev.toNat + 256 * byte.toNat = b.ser.acc.toNat

/-- Where an update cycle runs: at a selected falling edge while the capture path is enabled, and at the byte
that ends a valid frame (rule R281). -/
def runsCycle (K : Config) (i : Instr) (b : Block) : Prop :=
  match i with
  | .edgeRise _ _ => False
  | .edgeFall ch _ => b.capEnabled = true ∧ (b.cap ch).edgeSel = .falling
  | .rxByte byte => completesFrame K b byte
  | .tick => False
  | .wdtClock => False
  | .snapshot => False
  | .reset => False

/-- Where the block is reset: at `RESET`, and at the watchdog clock that reaches the limit (rule R371). -/
def resetsBlock (K : Config) (i : Instr) (b : Block) : Prop :=
  match i with
  | .edgeRise _ _ => False
  | .edgeFall _ _ => False
  | .rxByte _ => False
  | .tick => False
  | .wdtClock => ∃ limit, K.wdtLimit = some limit ∧ limit ≤ b.wdt + 1
  | .snapshot => False
  | .reset => True

/-- A word that spells no event under `K`, by its number: a reserved opcode (rule R105), a reserved field that is
not zero (rule R106), or a timestamp the timer cannot hold (rule R107). -/
def refusedWord (K : Config) (w : Nat) : Prop :=
  w / 2 ^ 28 = 0 ∨ 7 ≤ w / 2 ^ 28
    ∨ (w / 2 ^ 28 = 1 ∧ w / 2 ^ 24 % 4 ≠ 0) ∨ (w / 2 ^ 28 = 1 ∧ 2 ^ K.timerBits ≤ w % 2 ^ 24)
    ∨ (w / 2 ^ 28 = 2 ∧ w / 2 ^ 8 % 2 ^ 20 ≠ 0)
    ∨ (3 ≤ w / 2 ^ 28 ∧ w / 2 ^ 28 ≤ 6 ∧ w % 2 ^ 28 ≠ 0)

/-- No claim about a run may assume the refusal mark is clear (rule R332): a run whose mark is clear refused no
word. -/
def State.unrefused (s : State) : Prop := s.refusalMark = false

end Sys2Proof.Machine
end

