-- ==== Sys2Proof/Certificates/Slice0/Obligations.lean ====
section
/-! DEFINITION. The statements for the provers. -/

open Sys2Proof Sys2Proof.Machine

/-! ## Pulse capture (40_capture.md) -/

/-- Rule R143 whole: `EDGE_RISE` at a disabled capture path, at a unit that waits for a falling edge, and at one
that waits for a rising edge, where it latches the timestamp, toggles the edge-select bit and does nothing else. -/
def Obligations.EdgeRiseLatchesSelectedEdge : Prop :=
  ∀ (s : State) (ch : Channel) (ts : Stamp),
    exec (.edgeRise ch ts) s = .next
      (if s.blk.capEnabled = false then
        { s with trace := s.trace ++ [{ index := s.eventIndex, seen := .raised (.captureDisabledEdge ch) }] }
      else if (s.blk.cap ch).edgeSel = .falling then
        { s with trace := s.trace ++ [{ index := s.eventIndex, seen := .raised (.edgeNotSelected ch) }] }
      else match ch with
        | .ch1 => { s with blk := { s.blk with cap1 := { edgeSel := .falling, rise := ts } } }
        | .ch2 => { s with blk := { s.blk with cap2 := { edgeSel := .falling, rise := ts } } })

/-- Rule R144 at a selected falling edge while the capture path is enabled, with the frame: the measured width,
what the validator makes of it, the edge-select bit, the update cycle, the conditions, and that nothing else
changes. -/
def Obligations.EdgeFallMeasuresValidatesAndDrives : Prop :=
  ∀ (s : State) (ch : Channel) (ts : Stamp), s.cfg.Admitted → s.blk.capEnabled = true →
    (s.blk.cap ch).edgeSel = .falling →
    ∃ (t : State) (w : Half), exec (.edgeFall ch ts) s = .next t ∧ s.sameRun t
      ∧ w.toNat = (((ts.toNat : Int) - (s.blk.cap ch).rise.toNat) % 2 ^ s.cfg.timerBits).toNat
          * s.cfg.capNum / s.cfg.capDen
      ∧ (t.blk.chan ch).raw = w
      ∧ (t.blk.chan ch).value.toInt = (validate s.cfg w (s.blk.chan ch).armed).value
      ∧ (t.blk.chan ch).armed = (validate s.cfg w (s.blk.chan ch).armed).armed
      ∧ (t.blk.cap ch).edgeSel = .rising ∧ (t.blk.cap ch).rise = (s.blk.cap ch).rise
      ∧ (∀ ch', ch' ≠ ch → t.blk.chan ch' = s.blk.chan ch' ∧ t.blk.cap ch' = s.blk.cap ch')
      ∧ t.blk.capEnabled = true ∧ t.blk.ser = s.blk.ser
      ∧ t.blk.latch = latchOf
          (drive s.cfg (mix s.cfg t.blk.chan1.value.toInt t.blk.chan2.value.toInt).mA)
          (drive s.cfg (mix s.cfg t.blk.chan1.value.toInt t.blk.chan2.value.toInt).mB)
      ∧ t.blk.wdt = 0
      ∧ t.blk.armedCount = t.blk.chan1.armed.toNat + t.blk.chan2.armed.toNat
      ∧ t.trace = s.trace ++ s.raisedNow (validate s.cfg w (s.blk.chan ch).armed).raised

/-- Rules R141 and R142: an edge at a disabled capture path raises 0x07 and changes no block state; otherwise an
edge of the polarity the unit does not wait for raises 0x08 and changes no block state. -/
def Obligations.UnselectedEdgesAreIgnored : Prop :=
  ∀ (s : State) (ch : Channel) (ts : Stamp),
    (s.blk.capEnabled = false → ∀ i ∈ [Instr.edgeRise ch ts, Instr.edgeFall ch ts],
      exec i s = .next { s with trace := s.trace ++ s.raisedNow [.captureDisabledEdge ch] })
    ∧ (s.blk.capEnabled = true → (s.blk.cap ch).edgeSel = .falling →
      exec (.edgeRise ch ts) s = .next { s with trace := s.trace ++ s.raisedNow [.edgeNotSelected ch] })
    ∧ (s.blk.capEnabled = true → (s.blk.cap ch).edgeSel = .rising →
      exec (.edgeFall ch ts) s = .next { s with trace := s.trace ++ s.raisedNow [.edgeNotSelected ch] })

/-- Rule R140: an edge event on one channel completes and leaves the other channel's record and capture unit, the
serial decoder and the capture enable as they are. -/
def Obligations.EdgeOnOneChannelLeavesTheOther : Prop :=
  ∀ (s : State) (ch ch' : Channel) (ts : Stamp), ch' ≠ ch →
    ∀ i ∈ [Instr.edgeRise ch ts, Instr.edgeFall ch ts], ∃ t, exec i s = .next t ∧ s.sameRun t
      ∧ t.blk.chan ch' = s.blk.chan ch' ∧ t.blk.cap ch' = s.blk.cap ch'
      ∧ t.blk.ser = s.blk.ser ∧ t.blk.capEnabled = s.blk.capEnabled

/-- Rule R145: the width is the modular timer difference scaled by the pre-division factor and rounded down, and
under an admitted configuration it fits 16 bits. -/
def Obligations.WidthIsScaledModularDifference : Prop :=
  ∀ (K : Config) (rise fall : Stamp), K.Admitted →
    (width K rise fall).toNat
      = (((fall.toNat : Int) - (rise.toNat : Int)) % 2 ^ K.timerBits).toNat * K.capNum / K.capDen

/-- Rule R115: with a pre-division factor of 1, the two edges of `pulse chN t0 width`, at a unit that waits for a
rising edge, leave the channel's raw width at `width mod 2^TIMER_BITS`. -/
def Obligations.ScriptPulseMeasuresItsWidth : Prop :=
  ∀ (s : State) (ch : Channel) (t0 len : Nat) (rest : List EventWord), s.cfg.Admitted →
    s.platformReady = true → s.cfg.capNum = 1 → s.cfg.capDen = 1 → t0 < 2 ^ s.cfg.timerBits →
    s.blk.capEnabled = true → (s.blk.cap ch).edgeSel = .rising →
    s.events = scriptWords s.cfg (.pulse ch t0 len) ++ rest →
    ∃ t : State, Host.Core.run Sys2Proof.core 2 s = .next t ∧ t.events = rest
      ∧ (t.blk.chan ch).raw.toNat = len % 2 ^ s.cfg.timerBits ∧ (t.blk.cap ch).edgeSel = .rising

/-! ## Signal validator (42_validator.md) -/

/-- Rules R210 to R214: the three stages, in order, with inclusive bounds. -/
def Obligations.ValidatorStages : Prop :=
  ∀ (K : Config) (w : Half) (armed : Bool),
    validate K w armed =
      if ¬ (K.rangeMin ≤ w.toNat ∧ w.toNat ≤ K.rangeMax) then ⟨0, false, [.pulseOutOfRange w]⟩
      else if armed = true ∨ (K.neutralMin ≤ w.toNat ∧ w.toNat ≤ K.neutralMax) then
        ⟨(w.toNat : Int) - K.center, true, []⟩
      else ⟨0, false, [.unarmedOffNeutral w]⟩

/-- Rule R215: under an admitted configuration the validator's value lies in the command range and fits `s16`. -/
def Obligations.ValidatorValueFits : Prop :=
  ∀ (K : Config) (w : Half) (armed : Bool), K.Admitted →
    (K.rangeMin : Int) - K.center ≤ (validate K w armed).value
      ∧ (validate K w armed).value ≤ (K.rangeMax : Int) - K.center
      ∧ (BitVec.ofInt 16 (validate K w armed).value).toInt = (validate K w armed).value

/-- Rules R34 and R216: over every event, an unarmed channel that becomes armed has just taken a width in the
neutral band and its value is within the arming bound; an armed channel that becomes unarmed has just taken a
width out of range, or the event reset the block. -/
def Obligations.ArmingOnlyThroughNeutral : Prop :=
  ∀ (i : Instr) (s t : State) (ch : Channel), s.cfg.Admitted → exec i s = .next t →
    ((s.blk.chan ch).armed = false → (t.blk.chan ch).armed = true →
      s.cfg.neutralMin ≤ (t.blk.chan ch).raw.toNat ∧ (t.blk.chan ch).raw.toNat ≤ s.cfg.neutralMax
        ∧ (t.blk.chan ch).value.toInt = ((t.blk.chan ch).raw.toNat : Int) - s.cfg.center)
    ∧ ((s.blk.chan ch).armed = true → (t.blk.chan ch).armed = false →
      resetsBlock s.cfg i s.blk ∨ (t.blk.chan ch).raw.toNat < s.cfg.rangeMin
        ∨ s.cfg.rangeMax < (t.blk.chan ch).raw.toNat)

/-! ## Mixing engine and output driver (43_mixer.md, 44_output.md) -/

/-- Rules R230 to R232: the two modes are exact and unsaturated. The third clause is the model's own reading of rules
R233 and R13 (DEDUCED, assumption 17): where the command range is symmetric about `CENTER`, a command is at most rule
R233's bound in magnitude and fits `s16`. Rule R13 does not ask for that symmetry: see
`MixBoundHoldsForEveryRange`. -/
def Obligations.MixIsExactAndBounded : Prop :=
  ∀ (K : Config) (c1 c2 : Int), K.Admitted →
    (K.rangeMin : Int) - K.center ≤ c1 → c1 ≤ (K.rangeMax : Int) - K.center →
    (K.rangeMin : Int) - K.center ≤ c2 → c2 ≤ (K.rangeMax : Int) - K.center →
    (K.mixMode = .independent → (mix K c1 c2).mA = c1 ∧ (mix K c1 c2).mB = c2)
    ∧ (K.mixMode = .differential → (mix K c1 c2).mA = c1 + c2 ∧ (mix K c1 c2).mB = c1 - c2)
    ∧ (K.rangeMax - K.center = K.center - K.rangeMin →
      (mix K c1 c2).mA.natAbs ≤ (K.rangeMax - K.center) + (K.center - K.rangeMin)
      ∧ (mix K c1 c2).mB.natAbs ≤ (K.rangeMax - K.center) + (K.center - K.rangeMin)
      ∧ (BitVec.ofInt 16 (mix K c1 c2).mA).toInt = (mix K c1 c2).mA
      ∧ (BitVec.ofInt 16 (mix K c1 c2).mB).toInt = (mix K c1 c2).mB)

/-- Rule R233's bound as it stands, for every admitted configuration. EXPECTED TO FAIL: rule R13 admits a command
range that is not symmetric about `CENTER`, where two values at the far end add up to more (assumption 17). No
command wraps for it: commands are exact integers. -/
def Obligations.MixBoundHoldsForEveryRange : Prop :=
  ∀ (K : Config) (c1 c2 : Int), K.Admitted →
    (K.rangeMin : Int) - K.center ≤ c1 → c1 ≤ (K.rangeMax : Int) - K.center →
    (K.rangeMin : Int) - K.center ≤ c2 → c2 ≤ (K.rangeMax : Int) - K.center →
    (mix K c1 c2).mA.natAbs ≤ (K.rangeMax - K.center) + (K.center - K.rangeMin)
      ∧ (mix K c1 c2).mB.natAbs ≤ (K.rangeMax - K.center) + (K.center - K.rangeMin)

/-- Rule R251: the direction flags, never both true, both false exactly inside the deadband. -/
def Obligations.DirectionFlagsExclusive : Prop :=
  ∀ (K : Config) (t : Int),
    ((drive K t).fwd = true ↔ (K.outDb : Int) < t) ∧ ((drive K t).rev = true ↔ t < -(K.outDb : Int))
      ∧ ((drive K t).fwd && (drive K t).rev) = false
      ∧ (((drive K t).fwd = false ∧ (drive K t).rev = false) ↔ t.natAbs ≤ K.outDb)

/-- Rule R253, (P1) to (P4), for every admitted duty map, the interpolation of rule R252 and any admitted
table. -/
def Obligations.DutyMapMeetsItsFourPoints : Prop :=
  ∀ (K : Config), K.Admitted →
    (∀ a, a ≤ K.outDb → dutyMap K a = 0)
    ∧ dutyMap K (K.outDb + 1) = K.dutyMin
    ∧ (∀ a, K.tMax ≤ a → dutyMap K a = K.dutyMax)
    ∧ (∀ a, K.outDb < a → a < K.tMax →
      K.dutyMin.toNat ≤ (dutyMap K a).toNat ∧ (dutyMap K a).toNat ≤ K.dutyMax.toNat)
    ∧ (∀ a c, K.outDb < a → a ≤ c → c ≤ K.tMax → (dutyMap K a).toNat ≤ (dutyMap K c).toNat)

/-- Rule R252: the spec's own floor interpolation, where the configuration does not replace it. -/
def Obligations.DutyMapInterpolatesRoundingDown : Prop :=
  ∀ (K : Config) (a : Nat), K.Admitted → K.dutyShape = .interpolated →
    (dutyMap K a).toNat =
      if a ≤ K.outDb then 0
      else if K.tMax ≤ a then K.dutyMax.toNat
      else K.dutyMin.toNat
        + (a - (K.outDb + 1)) * (K.dutyMax.toNat - K.dutyMin.toNat) / (K.tMax - (K.outDb + 1))

/-- Rule R250's corner case: the opposite command has the same duty, with the direction flags swapped. -/
def Obligations.DriveOfOppositeCommandSwapsFlags : Prop :=
  ∀ (K : Config) (t : Int),
    drive K (-t) = { duty := (drive K t).duty, fwd := (drive K t).rev, rev := (drive K t).fwd }

/-- What an update cycle latches is consistent for each motor: a duty of at most `DUTY_MAX` and so `PWM_TOP`,
never both directions, and duty 0 exactly when stopped (rules R44, R250, R256; 95_test_vectors.md X4). -/
def Obligations.LatchedOutputsConsistent : Prop :=
  ∀ (K : Config) (c1 c2 : Int), K.Admitted →
    ((cycleLatch K c1 c2).fwdA && (cycleLatch K c1 c2).revA) = false
    ∧ ((cycleLatch K c1 c2).fwdB && (cycleLatch K c1 c2).revB) = false
    ∧ ((cycleLatch K c1 c2).dutyA = 0 ↔ (cycleLatch K c1 c2).fwdA = false ∧ (cycleLatch K c1 c2).revA = false)
    ∧ ((cycleLatch K c1 c2).dutyB = 0 ↔ (cycleLatch K c1 c2).fwdB = false ∧ (cycleLatch K c1 c2).revB = false)
    ∧ (cycleLatch K c1 c2).dutyA.toNat ≤ K.dutyMax.toNat ∧ (cycleLatch K c1 c2).dutyB.toNat ≤ K.dutyMax.toNat
    ∧ K.dutyMax.toNat ≤ K.pwmTop.toNat

/-- Rule R255: each direction pin is its flag, inverted where the configuration makes the line active-low; the
duty outputs are the latch's (rule R256). -/
def Obligations.PinsFollowPolarity : Prop :=
  ∀ (K : Config) (l : OutputLatch),
    ((halOutputs K l).pinFwdA = if K.invFwdA then !l.fwdA else l.fwdA)
    ∧ ((halOutputs K l).pinRevA = if K.invRevA then !l.revA else l.revA)
    ∧ ((halOutputs K l).pinFwdB = if K.invFwdB then !l.fwdB else l.fwdB)
    ∧ ((halOutputs K l).pinRevB = if K.invRevB then !l.revB else l.revB)
    ∧ (halOutputs K l).dutyA = l.dutyA ∧ (halOutputs K l).dutyB = l.dutyB

/-! ## Serial frame decoder (41_serial.md) -/

/-- Rule R73: a slot value is its first byte and 256 times its second. -/
def Obligations.SlotValuesAreLittleEndian : Prop :=
  (∀ first second : Byte, (littleEndian first second).toNat = first.toNat + 256 * second.toNat)
    ∧ ∀ v : Half, littleEndian (lowByte v) (highByte v) = v

/-- Rule R171: a marker resynchronizes the decoder from any state, raising 0x06 if a frame was in progress. -/
def Obligations.MarkerResynchronizes : Prop :=
  ∀ (s : State) (byte : Byte), s.blk.ser.prev.toNat = s.cfg.sync0 → byte.toNat = s.cfg.sync1 →
    exec (.rxByte byte) s = .next { s with
      blk := { s.blk with ser := { s.blk.ser with
        mode := .extract, pos := 0, acc := BitVec.ofNat 16 s.cfg.ckSeed, prev := byte } }
      trace := s.trace ++ s.raisedNow
        (if s.blk.ser.mode = .extract then [.frameAbandoned s.blk.ser.pos] else []) }

/-- Rule R172: in `SEARCH`, a byte that completes no marker only moves the window and raises 0x03. -/
def Obligations.SearchOnlyMovesTheWindow : Prop :=
  ∀ (s : State) (byte : Byte), s.blk.ser.mode = .search →
    ¬ (s.blk.ser.prev.toNat = s.cfg.sync0 ∧ byte.toNat = s.cfg.sync1) →
    exec (.rxByte byte) s = .next { s with
      blk := { s.blk with ser := { s.blk.ser with prev := byte } }
      trace := s.trace ++ s.raisedNow [.unsyncedByte byte] }

/-- Rule R173: the first byte of a pair only moves the position and the window. -/
def Obligations.FirstByteOfPairIsStored : Prop :=
  ∀ (s : State) (byte : Byte), s.blk.ser.mode = .extract →
    ¬ (s.blk.ser.prev.toNat = s.cfg.sync0 ∧ byte.toNat = s.cfg.sync1) → s.blk.ser.pos.toNat % 2 = 0 →
    exec (.rxByte byte) s = .next { s with
      blk := { s.blk with ser := { s.blk.ser with pos := s.blk.ser.pos + 1, prev := byte } } }

/-- Rule R174: the second byte of slot `k` takes both bytes from the accumulator, modulo `2^16`, and stages the
slot's value for each channel whose slot it is. -/
def Obligations.SlotUpdatesAccumulatorAndStage : Prop :=
  ∀ (s : State) (byte : Byte) (k : Nat), s.cfg.Admitted → s.blk.ser.mode = .extract →
    ¬ (s.blk.ser.prev.toNat = s.cfg.sync0 ∧ byte.toNat = s.cfg.sync1) →
    s.blk.ser.pos.toNat + 1 = 2 * k → 1 ≤ k → k ≤ s.cfg.nSlots →
    ∃ (t : State) (v : Half), exec (.rxByte byte) s = .next t ∧ s.sameRun t ∧ t.trace = s.trace
      ∧ v.toNat = s.blk.ser.prev.toNat + 256 * byte.toNat
      ∧ t.blk.sameOutsideSerial s.blk
      ∧ (t.blk.ser.acc.toNat : Int)
          = ((s.blk.ser.acc.toNat : Int) - s.blk.ser.prev.toNat - byte.toNat) % 65536
      ∧ t.blk.ser.stage1 = (if k = s.cfg.slotCh1 then v else s.blk.ser.stage1)
      ∧ t.blk.ser.stage2 = (if k = s.cfg.slotCh2 then v else s.blk.ser.stage2)
      ∧ t.blk.ser.prev = byte ∧ t.blk.ser.mode = .extract ∧ t.blk.ser.pos.toNat = 2 * k

/-- Rule R175, the failing comparison: the frame is discarded, 0x04 is raised, the decoder searches again, and
nothing outside it changes. -/
def Obligations.WrongChecksumDiscardsFrame : Prop :=
  ∀ (s : State) (byte : Byte), s.cfg.Admitted → s.blk.ser.mode = .extract →
    ¬ (s.blk.ser.prev.toNat = s.cfg.sync0 ∧ byte.toNat = s.cfg.sync1) →
    s.blk.ser.pos.toNat + 1 = 2 * (s.cfg.nSlots + 1) →
    s.blk.ser.prev.toNat + 256 * byte.toNat ≠ s.blk.ser.acc.toNat →
    exec (.rxByte byte) s = .next { s with
      blk := { s.blk with ser := { s.blk.ser with
        mode := .search, pos := BitVec.ofNat 8 (2 * (s.cfg.nSlots + 1)), prev := byte } }
      trace := s.trace ++ s.raisedNow
        [.checksumMismatch (BitVec.ofNat 16 (s.blk.ser.prev.toNat + 256 * byte.toNat)) s.blk.ser.acc] }

/-- Rules R175 to R177, the matching comparison: both channels take their staged widths through the validator,
channel 1 first, one update cycle runs, the capture path is disabled and the decoder searches again; nothing else
changes. -/
def Obligations.RightChecksumCommitsFrame : Prop :=
  ∀ (s : State) (byte : Byte), s.cfg.Admitted → s.blk.ser.mode = .extract →
    ¬ (s.blk.ser.prev.toNat = s.cfg.sync0 ∧ byte.toNat = s.cfg.sync1) →
    s.blk.ser.pos.toNat + 1 = 2 * (s.cfg.nSlots + 1) →
    s.blk.ser.prev.toNat + 256 * byte.toNat = s.blk.ser.acc.toNat →
    ∃ t, exec (.rxByte byte) s = .next t ∧ s.sameRun t
      ∧ (∀ ch, (t.blk.chan ch).raw = s.blk.ser.stage ch
        ∧ (t.blk.chan ch).value.toInt = (validate s.cfg (s.blk.ser.stage ch) (s.blk.chan ch).armed).value
        ∧ (t.blk.chan ch).armed = (validate s.cfg (s.blk.ser.stage ch) (s.blk.chan ch).armed).armed
        ∧ t.blk.cap ch = s.blk.cap ch)
      ∧ t.blk.ser = { s.blk.ser with
          mode := .search, pos := BitVec.ofNat 8 (2 * (s.cfg.nSlots + 1)), prev := byte }
      ∧ t.blk.latch = latchOf
          (drive s.cfg (mix s.cfg t.blk.chan1.value.toInt t.blk.chan2.value.toInt).mA)
          (drive s.cfg (mix s.cfg t.blk.chan1.value.toInt t.blk.chan2.value.toInt).mB)
      ∧ t.blk.wdt = 0
      ∧ t.blk.armedCount = t.blk.chan1.armed.toNat + t.blk.chan2.armed.toNat
      ∧ t.blk.capEnabled = false
      ∧ t.trace = s.trace
          ++ s.raisedNow (validate s.cfg s.blk.ser.stage1 s.blk.chan1.armed).raised
          ++ s.raisedNow (validate s.cfg s.blk.ser.stage2 s.blk.chan2.armed).raised

/-- Rules R170 and R179, the frame of `RX_BYTE`: every byte is stored in the window, and a byte that does not end
a valid frame changes nothing outside the serial decoder. -/
def Obligations.OnlyAValidFrameLeavesTheDecoder : Prop :=
  ∀ (s : State) (byte : Byte), ∃ t, exec (.rxByte byte) s = .next t ∧ s.sameRun t ∧ t.blk.ser.prev = byte
    ∧ (¬ completesFrame s.cfg s.blk byte → t.blk.sameOutsideSerial s.blk)

/-- Rules R178, R179 and R110: the words of a frame with its right checksum, delivered to a decoder that searches,
with no marker after its own, are 2N+4 steps that commit its two mapped slots, run the update cycle and hand
over. That the index counts on from word to word is the model's numbering (assumption 8). -/
def Obligations.ValidFrameUpdatesBothChannels : Prop :=
  ∀ (s : State) (slots : List Half) (rest : List EventWord), s.cfg.Admitted → s.platformReady = true →
    s.blk.ser.mode = .search → slots.length = s.cfg.nSlots →
    hasMarker s.cfg (BitVec.ofNat 8 s.cfg.sync1) ((frameBytes s.cfg slots).drop 2) = false →
    s.events = byteWords (frameBytes s.cfg slots) ++ rest →
    ∃ t : State, Host.Core.run Sys2Proof.core (2 * s.cfg.nSlots + 4) s = .next t
      ∧ t.events = rest ∧ t.cfg = s.cfg ∧ t.refusalMark = s.refusalMark
      ∧ t.eventIndex = s.eventIndex + (2 * s.cfg.nSlots + 4)
      ∧ (∀ ch w, w = slots.getD ((match ch with | .ch1 => s.cfg.slotCh1 | .ch2 => s.cfg.slotCh2) - 1) 0 →
        (t.blk.chan ch).raw = w
        ∧ (t.blk.chan ch).value.toInt = (validate s.cfg w (s.blk.chan ch).armed).value
        ∧ (t.blk.chan ch).armed = (validate s.cfg w (s.blk.chan ch).armed).armed
        ∧ t.blk.cap ch = s.blk.cap ch)
      ∧ t.blk.latch = cycleLatch s.cfg t.blk.chan1.value.toInt t.blk.chan2.value.toInt
      ∧ t.blk.wdt = 0 ∧ t.blk.capEnabled = false ∧ t.blk.ser.mode = .search
      ∧ t.blk.ser.acc = checksumOf s.cfg (payloadBytes slots)

/-- Rules R175, R179 and R180: a frame whose checksum field is wrong, delivered to a decoder that searches,
changes nothing outside the decoder, whatever markers occur in it; with none, it ends with condition 0x04. The
numbering of the events in the trace is the model's (assumption 8). -/
def Obligations.InvalidFrameUpdatesNothing : Prop :=
  ∀ (s : State) (field : Half) (slots : List Half) (rest : List EventWord), s.cfg.Admitted →
    s.platformReady = true → s.blk.ser.mode = .search → slots.length = s.cfg.nSlots →
    field ≠ checksumOf s.cfg (payloadBytes slots) →
    s.events = byteWords (frameWith s.cfg field slots) ++ rest →
    ∃ t : State, Host.Core.run Sys2Proof.core (2 * s.cfg.nSlots + 4) s = .next t
      ∧ t.events = rest ∧ t.blk.sameOutsideSerial s.blk
      ∧ (hasMarker s.cfg (BitVec.ofNat 8 s.cfg.sync1) ((frameWith s.cfg field slots).drop 2) = false →
        t.blk.ser.mode = .search
        ∧ t.trace.getLast? = some (TraceEntry.mk (s.eventIndex + (2 * s.cfg.nSlots + 3))
            (.raised (.checksumMismatch field (checksumOf s.cfg (payloadBytes slots))))))

/-- Rule R179: flipping one payload bit changes the checksum the frame needs. -/
def Obligations.OneFlippedBitChangesTheChecksum : Prop :=
  ∀ (K : Config) (before after : List Byte) (byte : Byte) (j : Nat), j < 8 →
    checksumOf K (before ++ [byte ^^^ (1#8 <<< j)] ++ after) ≠ checksumOf K (before ++ [byte] ++ after)

/-- 95_test_vectors.md X1: with the default seed and slot count, the right checksum of a frame has a high byte of
at least 0xE4, so it never spells the marker. -/
def Obligations.DefaultChecksumNeverSpellsMarker : Prop :=
  ∀ slots : List Half, slots.length = 14 →
    0xE4 ≤ (highByte (checksumOf Config.tc (payloadBytes slots))).toNat

/-- With the defaults, a frame whose slot values are all in range, with its right checksum, holds no marker after its
own. For the slots this is rule R379, which says that the checksum carries no such guarantee; for the checksum it
follows from 95_test_vectors.md X1 with rule R111. -/
def Obligations.InRangeDefaultFrameHoldsNoMarker : Prop :=
  ∀ slots : List Half, slots.length = 14 → (∀ v ∈ slots, 800 ≤ v.toNat ∧ v.toNat ≤ 2200) →
    hasMarker Config.tc 0x40 ((frameBytes Config.tc slots).drop 2) = false

/-- Rules R110 and R111: a frame is `2N + 4` bytes, begins with the marker, and its checksum field is the seed
less the sum of the payload bytes, modulo `2^16`. -/
def Obligations.FrameLayout : Prop :=
  ∀ (K : Config) (slots : List Half), slots.length = K.nSlots →
    (frameBytes K slots).length = 2 * K.nSlots + 4
    ∧ (frameBytes K slots).take 2 = markerBytes K
    ∧ (∀ k (h : k < slots.length), (frameBytes K slots)[2 * k + 2]? = some (lowByte slots[k])
      ∧ (frameBytes K slots)[2 * k + 3]? = some (highByte slots[k]))
    ∧ ∃ lo hi : Byte, (frameBytes K slots).drop (2 * K.nSlots + 2) = [lo, hi]
      ∧ ((lo.toNat + 256 * hi.toNat : Nat) : Int)
        = ((K.ckSeed : Int) - (byteSum (payloadBytes slots) : Int)) % 65536

/-! ## Supervisor, snapshot, reset (45_supervisor.md, 46_diagnostic_port.md, 70_reset_and_hazards.md) -/

/-- Rule R286: `TICK` changes nothing and raises nothing. -/
def Obligations.TickChangesNothing : Prop := ∀ s : State, exec .tick s = .next s

/-- Rules R284 and R285: `WDT_CLOCK` counts; the clock that reaches the limit raises 0x10 and resets every state
element. -/
def Obligations.WatchdogClockCountsOrResets : Prop :=
  ∀ (s : State) (limit : Nat), s.cfg.wdtLimit = some limit →
    exec .wdtClock s = .next
      (if s.blk.wdt + 1 < limit then { s with blk := { s.blk with wdt := s.blk.wdt + 1 } }
      else { s with
        blk := (State.resetWith s.cfg).blk, trace := s.trace ++ s.raisedNow [.watchdogTimeout] })

/-- Rule R287: with an infinite limit there is no timeout (assumption 6). -/
def Obligations.InfiniteWatchdogNeverResets : Prop :=
  ∀ s : State, s.cfg.wdtLimit = none →
    exec .wdtClock s = .next { s with blk := { s.blk with wdt := s.blk.wdt + 1 } }

/-- Rule R288: `WDT_LIMIT` watchdog clocks with no other event between them reset the block, from any count below
the limit; the count goes on from the reset. The numbering of the events in the trace is the model's
(assumption 8). -/
def Obligations.SilentWindowResetsTheBlock : Prop :=
  ∀ (s : State) (limit : Nat) (rest : List EventWord), s.cfg.Admitted → s.platformReady = true →
    s.cfg.wdtLimit = some limit → s.blk.wdt < limit →
    s.events = List.replicate limit 0x40000000#32 ++ rest →
    ∃ t : State, Host.Core.run Sys2Proof.core limit s = .next t ∧ t.events = rest
      ∧ t.blk = { Block.reset s.cfg with wdt := s.blk.wdt } ∧ t.blk.latch = stoppedLatch
      ∧ ∃ e ∈ t.trace, e.seen = .raised .watchdogTimeout ∧ s.eventIndex ≤ e.index

/-- Rule R310: `SNAPSHOT` returns the shared fields and changes nothing. The returned value is an entry of the
trace (assumption 8). -/
def Obligations.SnapshotReturnsSharedFields : Prop :=
  ∀ s : State, exec .snapshot s = .next { s with
    trace := s.trace ++ [TraceEntry.mk s.eventIndex (.returned
      { raw1 := s.blk.chan1.raw, value1 := s.blk.chan1.value, armed1 := s.blk.chan1.armed
        raw2 := s.blk.chan2.raw, value2 := s.blk.chan2.value, armed2 := s.blk.chan2.armed
        dutyA := s.blk.latch.dutyA, fwdA := s.blk.latch.fwdA, revA := s.blk.latch.revA
        dutyB := s.blk.latch.dutyB, fwdB := s.blk.latch.fwdB, revB := s.blk.latch.revB
        armedCount := s.blk.armedCount, capEnabled := s.blk.capEnabled })] }

/-- Rule R311: two snapshots with no other event between them return equal records, and the latch fields in the
record are the outputs of one whole cycle, of the values in the same record, in every good state. That a returned
record is a trace entry with its event's index is the model's choice (assumption 8). -/
def Obligations.SnapshotsAreConsistent : Prop :=
  ∀ (s : State), s.Inv → ∃ (t u : State) (r : Snapshot),
    exec .snapshot s = .next t ∧ exec .snapshot t = .next u
      ∧ t.trace = s.trace ++ [{ index := s.eventIndex, seen := .returned r }]
      ∧ u.trace = t.trace ++ [{ index := s.eventIndex, seen := .returned r }]
      ∧ OutputLatch.mk r.dutyA r.fwdA r.revA r.dutyB r.fwdB r.revB
          = cycleLatch s.cfg r.value1.toInt r.value2.toInt
      ∧ r.armedCount = r.armed1.toNat + r.armed2.toNat

/-- Rules R370 and R52: `RESET` leaves every element of the block state at its reset value, raises nothing and
changes nothing else. -/
def Obligations.ResetLeavesEveryResetValue : Prop :=
  ∀ s : State, exec .reset s = .next { s with blk :=
    { chan1 := { raw := 0, value := 0, armed := false }
      chan2 := { raw := 0, value := 0, armed := false }
      cap1 := { edgeSel := .rising, rise := 0 }
      cap2 := { edgeSel := .rising, rise := 0 }
      capEnabled := true
      ser := { prev := 0x00, mode := .search, pos := 0, acc := BitVec.ofNat 16 s.cfg.ckSeed,
               stage1 := 0, stage2 := 0 }
      latch := { dutyA := 0, fwdA := false, revA := false, dutyB := 0, fwdB := false, revB := false }
      wdt := 0
      armedCount := 0 } }

/-! ## Whole-machine rules -/

/-- Rules R281 to R283, R285 and R370 over every event: where an update cycle runs, what it leaves, where the block is
reset, and that elsewhere the latch, the armed count and the channel records stay as they are and only a watchdog
clock moves the count. -/
def Obligations.UpdateCycleRunsExactlyWhereTriggered : Prop :=
  ∀ (i : Instr) (s : State), ∃ t, exec i s = .next t ∧ s.sameRun t
    ∧ (runsCycle s.cfg i s.blk →
      t.blk.wdt = 0
      ∧ t.blk.latch = cycleLatch s.cfg t.blk.chan1.value.toInt t.blk.chan2.value.toInt
      ∧ t.blk.armedCount = t.blk.chan1.armed.toNat + t.blk.chan2.armed.toNat)
    ∧ (resetsBlock s.cfg i s.blk → t.blk = Block.reset s.cfg)
    ∧ (¬ runsCycle s.cfg i s.blk → ¬ resetsBlock s.cfg i s.blk →
      t.blk.latch = s.blk.latch ∧ t.blk.armedCount = s.blk.armedCount
      ∧ t.blk.chan1 = s.blk.chan1 ∧ t.blk.chan2 = s.blk.chan2
      ∧ t.blk.wdt = s.blk.wdt + (if i = .wdtClock then 1 else 0))

/-- Rule R183: no event but a reset of the block sets `capEnabled` back to true, and only a byte that ends a valid
frame clears it. -/
def Obligations.HandoverIsOneWay : Prop :=
  ∀ (i : Instr) (s t : State), exec i s = .next t →
    (s.blk.capEnabled = false → t.blk.capEnabled = true → resetsBlock s.cfg i s.blk)
    ∧ (s.blk.capEnabled = true → t.blk.capEnabled = false →
      ∃ byte, i = .rxByte byte ∧ completesFrame s.cfg s.blk byte)

/-- Rules R334 and R335: an event of a source that is not enabled for its polarity is an edge event, completes, and
changes no block state. -/
def Obligations.MaskedSourcesChangeNothing : Prop :=
  ∀ (i : Instr) (s : State) (src : Source), sourceOf i = some src →
    sourceEnabled s.blk (polarityOf i) src = false →
    (∃ ch, src = .capture ch) ∧ ∃ t c, exec i s = .next t ∧ t.blk = s.blk ∧ s.sameRun t
      ∧ t.trace = s.trace ++ s.raisedNow [c] ∧ (c.code = 0x07 ∨ c.code = 0x08)

/-- Rules R50 and R343: the foreground context never writes block state. -/
def Obligations.ForegroundNeverWrites : Prop :=
  ∀ (i : Instr) (s : State), contextOf i = .foreground → ∃ t, exec i s = .next t ∧ t.blk = s.blk ∧ s.sameRun t

/-- Rules R331 and R112: a step only adds entries to the trace, each with its event's index, and none of them is
the reserved condition 0x05. The trace as a list and the index are the model's (assumption 8). -/
def Obligations.TraceGrowsByThisEvent : Prop :=
  ∀ (s t : State), step s = .next t →
    ∃ new : List TraceEntry, t.trace = s.trace ++ new
      ∧ ∀ e ∈ new, e.index = s.eventIndex ∧ ∀ c, e.seen = .raised c → c.code ≠ 0x05

/-- Rules R5 and R332: no step changes the configuration, and no step clears the refusal mark. -/
def Obligations.ConfigAndRefusalMarkPersist : Prop :=
  ∀ (s t : State), step s = .next t →
    t.cfg = s.cfg ∧ (s.refusalMark = true → t.refusalMark = true)

/-- Rules R37, R42 and R43: two block states that differ only in what is never read before it is written again
cannot be told apart by any event: the conditions, the returned values and all the rest stay equal. -/
def Obligations.UnreadStateIsUnobservable : Prop :=
  ∀ (i : Instr) (s u : State), s.cfg.Admitted → u.cfg = s.cfg → u.eventIndex = s.eventIndex →
    u.trace = s.trace → s.blk.Indistinct s.cfg u.blk →
    ∃ t v, exec i s = .next t ∧ exec i u = .next v ∧ v.trace = t.trace ∧ t.blk.Indistinct s.cfg v.blk

/-- Rule R288, loss of signal: in a good state, a selected falling edge whose width is out of range, while the
other channel is unarmed, stops both motors. -/
def Obligations.LostSignalStopsTheMotors : Prop :=
  ∀ (s : State) (ch : Channel) (ts : Stamp), s.Inv → s.blk.capEnabled = true →
    (s.blk.cap ch).edgeSel = .falling → (∀ ch', ch' ≠ ch → (s.blk.chan ch').armed = false) →
    ((width s.cfg (s.blk.cap ch).rise ts).toNat < s.cfg.rangeMin
      ∨ s.cfg.rangeMax < (width s.cfg (s.blk.cap ch).rise ts).toNat) →
    ∃ t, exec (.edgeFall ch ts) s = .next t ∧ t.blk.latch = stoppedLatch ∧ t.blk.armedCount = 0
      ∧ t.blk.wdt = 0

/-- The invariant of the machine: every step from a good state leads to a good state (rules R33, R35, R37, R41, R46,
R283, R288, R311). -/
def Obligations.StepKeepsInvariant : Prop :=
  ∀ (s t : State), s.Inv → step s = .next t → t.Inv

/-- The state after reset is good under every admitted configuration, and `State.reset` is (rules R35, R52, R372). The
configuration of `State.reset` is the model's choice (assumption 1). -/
def Obligations.ResetMeetsInvariant : Prop :=
  (∀ K : Config, K.Admitted → (State.resetWith K).Inv) ∧ State.reset.Inv

/-! ## Steps and encodings (30_encoding.md, 60_exceptions.md) -/

/-- A step runs the decoded event: the word is consumed, the event runs in the state without it, and the next
event has the next index (rules R17, R83). The list of waiting words and the index are the model's (assumptions 2
and 8). -/
def Obligations.StepRunsDecodedEvent : Prop :=
  ∀ (s : State) (w : EventWord) (rest : List EventWord) (i : Instr), s.cfg.Admitted → s.platformReady = true →
    s.events = w :: rest → decode s.cfg w = .ok i →
    ∃ t, exec i { s with events := rest } = .next t
      ∧ step s = .next { t with eventIndex := s.eventIndex + 1 }

/-- Rules R348 and R372: with no event waiting, the step is a wait that changes nothing (the waiting words are the
model's own: assumption 2). -/
def Obligations.WaitKeepsTheState : Prop :=
  ∀ s : State, s.cfg.Admitted → s.events = [] → step s = .next s

/-- Rule R13: a configuration that is not admitted is refused (`REFUSED_CONFIG`, rule R331; at each step:
assumption 4). -/
def Obligations.UnadmittedConfigIsRefused : Prop :=
  ∀ s : State, ¬ s.cfg.Admitted → step s = .refused .refusedConfig

/-- Rule R373: an event delivered before the platform has finished boot is outside the spec; the model stops with a
fault (assumption 9). -/
def Obligations.EventBeforeBootFaults : Prop :=
  ∀ (s : State) (w : EventWord) (rest : List EventWord), s.cfg.Admitted → s.platformReady = false →
    s.events = w :: rest → step s = .fault .eventBeforeBoot

/-- Rules R105 to R107: a word that spells no event sets the refusal mark, is recorded, is consumed, and changes no
block state. That the run then goes on is the model's reading (assumption 3), and that a refused word takes an index
like an event is the model's choice (assumption 8). -/
def Obligations.RefusedWordOnlySetsTheMark : Prop :=
  ∀ (s : State) (w : EventWord) (rest : List EventWord), s.cfg.Admitted → s.platformReady = true →
    s.events = w :: rest → refusedWord s.cfg w.toNat →
    step s = .next { s with
      events := rest
      eventIndex := s.eventIndex + 1
      trace := s.trace ++ [{ index := s.eventIndex, seen := .refusedEvent w }]
      refusalMark := true }

/-- Rules R100 to R107: the decoder refuses exactly the words of reserved opcodes, non-zero reserved fields and
timestamps too wide. -/
def Obligations.DecoderRefusesExactlyReservedWords : Prop :=
  ∀ (K : Config) (w : EventWord), (∃ e, decode K w = .error e) ↔ refusedWord K w.toNat

/-- Decoding the word of a well-formed event gives the event back, for every event and operand (rules R100 to
R108). -/
def Obligations.DecodeOfEncode : Prop :=
  ∀ (K : Config) (i : Instr), i.wellFormed K = true → decode K (encode i) = .ok i

/-- Every word the decoder accepts is the one word of its event, and the event is well formed (rules R100 to
R108). -/
def Obligations.EncodeOfDecode : Prop :=
  ∀ (K : Config) (w : EventWord) (i : Instr), decode K w = .ok i → encode i = w ∧ i.wellFormed K = true

/-- Words written out from rules R102 to R104 decode to the events they stand for. -/
def Obligations.WrittenWordsDecode : Prop :=
  decode Config.tc 0b00010100000000000000001111101000#32 = .ok (.edgeRise .ch1 1000)
    ∧ decode Config.tc 0b00011100000000000000010001001100#32 = .ok (.edgeRise .ch2 1100)
    ∧ decode Config.tc 0b00010000000000000000100111000100#32 = .ok (.edgeFall .ch1 2500)
    ∧ decode Config.tc 0b00011000000000000000101000101000#32 = .ok (.edgeFall .ch2 2600)
    ∧ decode Config.tc 0b00100000000000000000000011011100#32 = .ok (.rxByte 0xDC)
    ∧ decode Config.tc 0b00110000000000000000000000000000#32 = .ok .tick
    ∧ decode Config.tc 0b01000000000000000000000000000000#32 = .ok .wdtClock
    ∧ decode Config.tc 0b01010000000000000000000000000000#32 = .ok .snapshot
    ∧ decode Config.tc 0b01100000000000000000000000000000#32 = .ok .reset
end

