-- ==== Sys2Proof/Laws/State.lean ====
section
/-! SUPPORT. One lemma per field per update of the block state and of the machine's state. -/

namespace Sys2Proof.Machine

/-! `Block.setChan` -/

@[simp] theorem setChan_chan_same (b : Block) (ch : Channel) (x : ChannelInput) : (b.setChan ch x).chan ch = x := by
  cases ch <;> rfl
theorem setChan_chan_other (b : Block) (ch ch' : Channel) (x : ChannelInput) (h : ch' ≠ ch) :
    (b.setChan ch x).chan ch' = b.chan ch' := by
  cases ch <;> cases ch' <;> first | rfl | exact absurd rfl h
@[simp] theorem setChan_cap (b : Block) (ch ch' : Channel) (x : ChannelInput) : (b.setChan ch x).cap ch' = b.cap ch' := by
  cases ch <;> cases ch' <;> rfl
@[simp] theorem setChan_chan1_hit (b : Block) (x : ChannelInput) : (b.setChan .ch1 x).chan1 = x := rfl
@[simp] theorem setChan_chan1_miss (b : Block) (x : ChannelInput) : (b.setChan .ch2 x).chan1 = b.chan1 := rfl
@[simp] theorem setChan_chan2_hit (b : Block) (x : ChannelInput) : (b.setChan .ch2 x).chan2 = x := rfl
@[simp] theorem setChan_chan2_miss (b : Block) (x : ChannelInput) : (b.setChan .ch1 x).chan2 = b.chan2 := rfl
@[simp] theorem setChan_cap1 (b : Block) (ch : Channel) (x : ChannelInput) : (b.setChan ch x).cap1 = b.cap1 := by
  cases ch <;> rfl
@[simp] theorem setChan_cap2 (b : Block) (ch : Channel) (x : ChannelInput) : (b.setChan ch x).cap2 = b.cap2 := by
  cases ch <;> rfl
@[simp] theorem setChan_capEnabled (b : Block) (ch : Channel) (x : ChannelInput) : (b.setChan ch x).capEnabled = b.capEnabled := by
  cases ch <;> rfl
@[simp] theorem setChan_ser (b : Block) (ch : Channel) (x : ChannelInput) : (b.setChan ch x).ser = b.ser := by
  cases ch <;> rfl
@[simp] theorem setChan_latch (b : Block) (ch : Channel) (x : ChannelInput) : (b.setChan ch x).latch = b.latch := by
  cases ch <;> rfl
@[simp] theorem setChan_wdt (b : Block) (ch : Channel) (x : ChannelInput) : (b.setChan ch x).wdt = b.wdt := by
  cases ch <;> rfl
@[simp] theorem setChan_armedCount (b : Block) (ch : Channel) (x : ChannelInput) : (b.setChan ch x).armedCount = b.armedCount := by
  cases ch <;> rfl

/-! `Block.setCap` -/

@[simp] theorem setCap_cap_same (b : Block) (ch : Channel) (x : CaptureUnit) : (b.setCap ch x).cap ch = x := by
  cases ch <;> rfl
theorem setCap_cap_other (b : Block) (ch ch' : Channel) (x : CaptureUnit) (h : ch' ≠ ch) :
    (b.setCap ch x).cap ch' = b.cap ch' := by
  cases ch <;> cases ch' <;> first | rfl | exact absurd rfl h
@[simp] theorem setCap_chan (b : Block) (ch ch' : Channel) (x : CaptureUnit) : (b.setCap ch x).chan ch' = b.chan ch' := by
  cases ch <;> cases ch' <;> rfl
@[simp] theorem setCap_cap1_hit (b : Block) (x : CaptureUnit) : (b.setCap .ch1 x).cap1 = x := rfl
@[simp] theorem setCap_cap1_miss (b : Block) (x : CaptureUnit) : (b.setCap .ch2 x).cap1 = b.cap1 := rfl
@[simp] theorem setCap_cap2_hit (b : Block) (x : CaptureUnit) : (b.setCap .ch2 x).cap2 = x := rfl
@[simp] theorem setCap_cap2_miss (b : Block) (x : CaptureUnit) : (b.setCap .ch1 x).cap2 = b.cap2 := rfl
@[simp] theorem setCap_chan1 (b : Block) (ch : Channel) (x : CaptureUnit) : (b.setCap ch x).chan1 = b.chan1 := by
  cases ch <;> rfl
@[simp] theorem setCap_chan2 (b : Block) (ch : Channel) (x : CaptureUnit) : (b.setCap ch x).chan2 = b.chan2 := by
  cases ch <;> rfl
@[simp] theorem setCap_capEnabled (b : Block) (ch : Channel) (x : CaptureUnit) : (b.setCap ch x).capEnabled = b.capEnabled := by
  cases ch <;> rfl
@[simp] theorem setCap_ser (b : Block) (ch : Channel) (x : CaptureUnit) : (b.setCap ch x).ser = b.ser := by
  cases ch <;> rfl
@[simp] theorem setCap_latch (b : Block) (ch : Channel) (x : CaptureUnit) : (b.setCap ch x).latch = b.latch := by
  cases ch <;> rfl
@[simp] theorem setCap_wdt (b : Block) (ch : Channel) (x : CaptureUnit) : (b.setCap ch x).wdt = b.wdt := by
  cases ch <;> rfl
@[simp] theorem setCap_armedCount (b : Block) (ch : Channel) (x : CaptureUnit) : (b.setCap ch x).armedCount = b.armedCount := by
  cases ch <;> rfl

@[simp] theorem chan_ch1 (b : Block) : b.chan .ch1 = b.chan1 := rfl
@[simp] theorem chan_ch2 (b : Block) : b.chan .ch2 = b.chan2 := rfl
@[simp] theorem cap_ch1 (b : Block) : b.cap .ch1 = b.cap1 := rfl
@[simp] theorem cap_ch2 (b : Block) : b.cap .ch2 = b.cap2 := rfl

/-! `setSer` -/

@[simp] theorem setSer_chan1 (b : Block) (x : SerialFrameState) : (b.setSer x).chan1 = b.chan1 := rfl
@[simp] theorem setSer_chan2 (b : Block) (x : SerialFrameState) : (b.setSer x).chan2 = b.chan2 := rfl
@[simp] theorem setSer_cap1 (b : Block) (x : SerialFrameState) : (b.setSer x).cap1 = b.cap1 := rfl
@[simp] theorem setSer_cap2 (b : Block) (x : SerialFrameState) : (b.setSer x).cap2 = b.cap2 := rfl
@[simp] theorem setSer_capEnabled (b : Block) (x : SerialFrameState) : (b.setSer x).capEnabled = b.capEnabled := rfl
@[simp] theorem setSer_ser (b : Block) (x : SerialFrameState) : (b.setSer x).ser = x := rfl
@[simp] theorem setSer_latch (b : Block) (x : SerialFrameState) : (b.setSer x).latch = b.latch := rfl
@[simp] theorem setSer_wdt (b : Block) (x : SerialFrameState) : (b.setSer x).wdt = b.wdt := rfl
@[simp] theorem setSer_armedCount (b : Block) (x : SerialFrameState) : (b.setSer x).armedCount = b.armedCount := rfl
@[simp] theorem setSer_chan (b : Block) (x : SerialFrameState) (ch : Channel) : (b.setSer x).chan ch = b.chan ch := by
  cases ch <;> rfl
@[simp] theorem setSer_cap (b : Block) (x : SerialFrameState) (ch : Channel) : (b.setSer x).cap ch = b.cap ch := by
  cases ch <;> rfl

/-! `commitLatch` -/

@[simp] theorem commitLatch_chan1 (l : OutputLatch) (b : Block) : (commitLatch l b).chan1 = b.chan1 := rfl
@[simp] theorem commitLatch_chan2 (l : OutputLatch) (b : Block) : (commitLatch l b).chan2 = b.chan2 := rfl
@[simp] theorem commitLatch_cap1 (l : OutputLatch) (b : Block) : (commitLatch l b).cap1 = b.cap1 := rfl
@[simp] theorem commitLatch_cap2 (l : OutputLatch) (b : Block) : (commitLatch l b).cap2 = b.cap2 := rfl
@[simp] theorem commitLatch_capEnabled (l : OutputLatch) (b : Block) : (commitLatch l b).capEnabled = b.capEnabled := rfl
@[simp] theorem commitLatch_ser (l : OutputLatch) (b : Block) : (commitLatch l b).ser = b.ser := rfl
@[simp] theorem commitLatch_latch (l : OutputLatch) (b : Block) : (commitLatch l b).latch = l := rfl
@[simp] theorem commitLatch_wdt (l : OutputLatch) (b : Block) : (commitLatch l b).wdt = b.wdt := rfl
@[simp] theorem commitLatch_armedCount (l : OutputLatch) (b : Block) : (commitLatch l b).armedCount = b.armedCount := rfl
@[simp] theorem commitLatch_chan (l : OutputLatch) (b : Block) (ch : Channel) : (commitLatch l b).chan ch = b.chan ch := by
  cases ch <;> rfl
@[simp] theorem commitLatch_cap (l : OutputLatch) (b : Block) (ch : Channel) : (commitLatch l b).cap ch = b.cap ch := by
  cases ch <;> rfl

/-! `kick` -/

@[simp] theorem kick_chan1 (b : Block) : (kick b).chan1 = b.chan1 := rfl
@[simp] theorem kick_chan2 (b : Block) : (kick b).chan2 = b.chan2 := rfl
@[simp] theorem kick_cap1 (b : Block) : (kick b).cap1 = b.cap1 := rfl
@[simp] theorem kick_cap2 (b : Block) : (kick b).cap2 = b.cap2 := rfl
@[simp] theorem kick_capEnabled (b : Block) : (kick b).capEnabled = b.capEnabled := rfl
@[simp] theorem kick_ser (b : Block) : (kick b).ser = b.ser := rfl
@[simp] theorem kick_latch (b : Block) : (kick b).latch = b.latch := rfl
@[simp] theorem kick_wdt (b : Block) : (kick b).wdt = 0 := rfl
@[simp] theorem kick_armedCount (b : Block) : (kick b).armedCount = b.armedCount := rfl
@[simp] theorem kick_chan (b : Block) (ch : Channel) : (kick b).chan ch = b.chan ch := by
  cases ch <;> rfl
@[simp] theorem kick_cap (b : Block) (ch : Channel) : (kick b).cap ch = b.cap ch := by
  cases ch <;> rfl

/-! `countArmed` -/

@[simp] theorem countArmed_chan1 (b : Block) : (countArmed b).chan1 = b.chan1 := rfl
@[simp] theorem countArmed_chan2 (b : Block) : (countArmed b).chan2 = b.chan2 := rfl
@[simp] theorem countArmed_cap1 (b : Block) : (countArmed b).cap1 = b.cap1 := rfl
@[simp] theorem countArmed_cap2 (b : Block) : (countArmed b).cap2 = b.cap2 := rfl
@[simp] theorem countArmed_capEnabled (b : Block) : (countArmed b).capEnabled = b.capEnabled := rfl
@[simp] theorem countArmed_ser (b : Block) : (countArmed b).ser = b.ser := rfl
@[simp] theorem countArmed_latch (b : Block) : (countArmed b).latch = b.latch := rfl
@[simp] theorem countArmed_wdt (b : Block) : (countArmed b).wdt = b.wdt := rfl
@[simp] theorem countArmed_armedCount (b : Block) : (countArmed b).armedCount = armedTotal b.chan1.armed b.chan2.armed := rfl
@[simp] theorem countArmed_chan (b : Block) (ch : Channel) : (countArmed b).chan ch = b.chan ch := by
  cases ch <;> rfl
@[simp] theorem countArmed_cap (b : Block) (ch : Channel) : (countArmed b).cap ch = b.cap ch := by
  cases ch <;> rfl

/-! `handover` -/

@[simp] theorem handover_chan1 (b : Block) : (handover b).chan1 = b.chan1 := rfl
@[simp] theorem handover_chan2 (b : Block) : (handover b).chan2 = b.chan2 := rfl
@[simp] theorem handover_cap1 (b : Block) : (handover b).cap1 = b.cap1 := rfl
@[simp] theorem handover_cap2 (b : Block) : (handover b).cap2 = b.cap2 := rfl
@[simp] theorem handover_capEnabled (b : Block) : (handover b).capEnabled = false := rfl
@[simp] theorem handover_ser (b : Block) : (handover b).ser = b.ser := rfl
@[simp] theorem handover_latch (b : Block) : (handover b).latch = b.latch := rfl
@[simp] theorem handover_wdt (b : Block) : (handover b).wdt = b.wdt := rfl
@[simp] theorem handover_armedCount (b : Block) : (handover b).armedCount = b.armedCount := rfl
@[simp] theorem handover_chan (b : Block) (ch : Channel) : (handover b).chan ch = b.chan ch := by
  cases ch <;> rfl
@[simp] theorem handover_cap (b : Block) (ch : Channel) : (handover b).cap ch = b.cap ch := by
  cases ch <;> rfl

/-! `updateCycle` -/

@[simp] theorem updateCycle_chan1 (K : Config) (b : Block) : (updateCycle K b).chan1 = b.chan1 := rfl
@[simp] theorem updateCycle_chan2 (K : Config) (b : Block) : (updateCycle K b).chan2 = b.chan2 := rfl
@[simp] theorem updateCycle_cap1 (K : Config) (b : Block) : (updateCycle K b).cap1 = b.cap1 := rfl
@[simp] theorem updateCycle_cap2 (K : Config) (b : Block) : (updateCycle K b).cap2 = b.cap2 := rfl
@[simp] theorem updateCycle_capEnabled (K : Config) (b : Block) : (updateCycle K b).capEnabled = b.capEnabled := rfl
@[simp] theorem updateCycle_ser (K : Config) (b : Block) : (updateCycle K b).ser = b.ser := rfl
@[simp] theorem updateCycle_latch (K : Config) (b : Block) : (updateCycle K b).latch = cycleLatch K b.chan1.value.toInt b.chan2.value.toInt := rfl
@[simp] theorem updateCycle_wdt (K : Config) (b : Block) : (updateCycle K b).wdt = 0 := rfl
@[simp] theorem updateCycle_armedCount (K : Config) (b : Block) : (updateCycle K b).armedCount = armedTotal b.chan1.armed b.chan2.armed := rfl
@[simp] theorem updateCycle_chan (K : Config) (b : Block) (ch : Channel) : (updateCycle K b).chan ch = b.chan ch := by
  cases ch <;> rfl
@[simp] theorem updateCycle_cap (K : Config) (b : Block) (ch : Channel) : (updateCycle K b).cap ch = b.cap ch := by
  cases ch <;> rfl

/-! `movePosition` -/

@[simp] theorem movePosition_chan1 (b : Block) : (movePosition b).chan1 = b.chan1 := rfl
@[simp] theorem movePosition_chan2 (b : Block) : (movePosition b).chan2 = b.chan2 := rfl
@[simp] theorem movePosition_cap1 (b : Block) : (movePosition b).cap1 = b.cap1 := rfl
@[simp] theorem movePosition_cap2 (b : Block) : (movePosition b).cap2 = b.cap2 := rfl
@[simp] theorem movePosition_capEnabled (b : Block) : (movePosition b).capEnabled = b.capEnabled := rfl
@[simp] theorem movePosition_latch (b : Block) : (movePosition b).latch = b.latch := rfl
@[simp] theorem movePosition_wdt (b : Block) : (movePosition b).wdt = b.wdt := rfl
@[simp] theorem movePosition_armedCount (b : Block) : (movePosition b).armedCount = b.armedCount := rfl
@[simp] theorem movePosition_prev (b : Block) : (movePosition b).ser.prev = b.ser.prev := rfl
@[simp] theorem movePosition_mode (b : Block) : (movePosition b).ser.mode = b.ser.mode := rfl
@[simp] theorem movePosition_acc (b : Block) : (movePosition b).ser.acc = b.ser.acc := rfl
@[simp] theorem movePosition_stage1 (b : Block) : (movePosition b).ser.stage1 = b.ser.stage1 := rfl
@[simp] theorem movePosition_stage2 (b : Block) : (movePosition b).ser.stage2 = b.ser.stage2 := rfl
@[simp] theorem movePosition_pos (b : Block) : (movePosition b).ser.pos = b.ser.pos + 1 := rfl
@[simp] theorem movePosition_setSer (b : Block) (x : SerialFrameState) : (movePosition b).setSer x = b.setSer x := rfl
@[simp] theorem movePosition_chan (b : Block) (ch : Channel) : (movePosition b).chan ch = b.chan ch := by
  cases ch <;> rfl
@[simp] theorem movePosition_cap (b : Block) (ch : Channel) : (movePosition b).cap ch = b.cap ch := by
  cases ch <;> rfl

/-! `State.afterEvent` -/

@[simp] theorem afterEvent_cfg (s : State) (e : Effect) : (s.afterEvent e).cfg = s.cfg := rfl
@[simp] theorem afterEvent_blk (s : State) (e : Effect) : (s.afterEvent e).blk = e.blk := rfl
@[simp] theorem afterEvent_platformReady (s : State) (e : Effect) : (s.afterEvent e).platformReady = s.platformReady := rfl
@[simp] theorem afterEvent_events (s : State) (e : Effect) : (s.afterEvent e).events = s.events := rfl
@[simp] theorem afterEvent_eventIndex (s : State) (e : Effect) : (s.afterEvent e).eventIndex = s.eventIndex := rfl
@[simp] theorem afterEvent_trace (s : State) (e : Effect) : (s.afterEvent e).trace = s.trace ++ e.entries s.eventIndex := rfl
@[simp] theorem afterEvent_refusalMark (s : State) (e : Effect) : (s.afterEvent e).refusalMark = s.refusalMark := rfl

/-! `State.refuseEvent` -/

@[simp] theorem refuseEvent_cfg (s : State) (w : EventWord) : (s.refuseEvent w).cfg = s.cfg := rfl
@[simp] theorem refuseEvent_blk (s : State) (w : EventWord) : (s.refuseEvent w).blk = s.blk := rfl
@[simp] theorem refuseEvent_platformReady (s : State) (w : EventWord) : (s.refuseEvent w).platformReady = s.platformReady := rfl
@[simp] theorem refuseEvent_events (s : State) (w : EventWord) : (s.refuseEvent w).events = s.events := rfl
@[simp] theorem refuseEvent_eventIndex (s : State) (w : EventWord) : (s.refuseEvent w).eventIndex = s.eventIndex := rfl
@[simp] theorem refuseEvent_trace (s : State) (w : EventWord) : (s.refuseEvent w).trace = s.trace ++ [{ index := s.eventIndex, seen := .refusedEvent w }] := rfl
@[simp] theorem refuseEvent_refusalMark (s : State) (w : EventWord) : (s.refuseEvent w).refusalMark = true := rfl

/-! `State.retire` -/

@[simp] theorem retire_cfg (s : State) : (s.retire).cfg = s.cfg := rfl
@[simp] theorem retire_blk (s : State) : (s.retire).blk = s.blk := rfl
@[simp] theorem retire_platformReady (s : State) : (s.retire).platformReady = s.platformReady := rfl
@[simp] theorem retire_events (s : State) : (s.retire).events = s.events := rfl
@[simp] theorem retire_eventIndex (s : State) : (s.retire).eventIndex = s.eventIndex + 1 := rfl
@[simp] theorem retire_trace (s : State) : (s.retire).trace = s.trace := rfl
@[simp] theorem retire_refusalMark (s : State) : (s.retire).refusalMark = s.refusalMark := rfl

/-! `State.deliver` -/

@[simp] theorem deliver_cfg (s : State) (w : EventWord) : (s.deliver w).cfg = s.cfg := rfl
@[simp] theorem deliver_blk (s : State) (w : EventWord) : (s.deliver w).blk = s.blk := rfl
@[simp] theorem deliver_platformReady (s : State) (w : EventWord) : (s.deliver w).platformReady = true := rfl
@[simp] theorem deliver_events (s : State) (w : EventWord) : (s.deliver w).events = w :: s.events := rfl
@[simp] theorem deliver_eventIndex (s : State) (w : EventWord) : (s.deliver w).eventIndex = s.eventIndex := rfl
@[simp] theorem deliver_trace (s : State) (w : EventWord) : (s.deliver w).trace = s.trace := rfl
@[simp] theorem deliver_refusalMark (s : State) (w : EventWord) : (s.deliver w).refusalMark = s.refusalMark := rfl

/-! `State.resetWith` -/

@[simp] theorem resetWith_cfg (K : Config) : (State.resetWith K).cfg = K := rfl
@[simp] theorem resetWith_blk (K : Config) : (State.resetWith K).blk = Block.reset K := rfl
@[simp] theorem resetWith_platformReady (K : Config) : (State.resetWith K).platformReady = true := rfl
@[simp] theorem resetWith_events (K : Config) : (State.resetWith K).events = [] := rfl
@[simp] theorem resetWith_eventIndex (K : Config) : (State.resetWith K).eventIndex = 1 := rfl
@[simp] theorem resetWith_trace (K : Config) : (State.resetWith K).trace = [] := rfl
@[simp] theorem resetWith_refusalMark (K : Config) : (State.resetWith K).refusalMark = false := rfl

end Sys2Proof.Machine
end

