-- ==== Sys2Proof/Laws/Ops.lean ====
section
/-! SUPPORT. What each shared operation can do, said once, to be cited instead of unfolding it. -/

namespace Sys2Proof.Machine

/-! Flags and tests. -/

@[simp] theorem otherEdge_rising : otherEdge .rising = .falling := rfl

@[simp] theorem otherEdge_falling : otherEdge .falling = .rising := rfl

theorem forwardFlag_iff (K : Config) (t : Int) : forwardFlag K t = true ↔ (K.outDb : Int) < t := by
  simp [forwardFlag]

theorem reverseFlag_iff (K : Config) (t : Int) : reverseFlag K t = true ↔ t < -(K.outDb : Int) := by
  simp [reverseFlag]

theorem armedTotal_eq (a b : Bool) : armedTotal a b = a.toNat + b.toNat := rfl

theorem completesMarker_iff (K : Config) (x : SerialFrameState) (byte : Byte) :
    completesMarker K x byte = true ↔ x.prev.toNat = K.sync0 ∧ byte.toNat = K.sync1 := by
  simp [completesMarker]

theorem limitReached_iff (K : Config) (count : Nat) :
    limitReached K count = true ↔ ∃ limit, K.wdtLimit = some limit ∧ limit ≤ count := by
  cases h : K.wdtLimit <;> simp [limitReached, h]

/-! The gate of the capture path (rules R141, R142). -/

theorem captureGate_disabled {ch : Channel} {pol : Edge} {b : Block} (h : b.capEnabled = false) :
    captureGate ch pol b = some (.captureDisabledEdge ch) := by
  simp [captureGate, h]

theorem captureGate_unselected {ch : Channel} {pol : Edge} {b : Block} (h : b.capEnabled = true)
    (hp : pol ≠ (b.cap ch).edgeSel) : captureGate ch pol b = some (.edgeNotSelected ch) := by
  simp [captureGate, h, hp]

theorem captureGate_none_iff (ch : Channel) (pol : Edge) (b : Block) :
    captureGate ch pol b = none ↔ b.capEnabled = true ∧ (b.cap ch).edgeSel = pol := by
  by_cases h : b.capEnabled = true
  · by_cases hp : pol = (b.cap ch).edgeSel
    · simp [captureGate, h, hp]
    · simp [captureGate, h, hp, Ne.symm hp]
  · simp [captureGate, h]

theorem captureGate_cases (ch : Channel) (pol : Edge) (b : Block) :
    (b.capEnabled = false ∧ captureGate ch pol b = some (.captureDisabledEdge ch))
    ∨ (b.capEnabled = true ∧ (b.cap ch).edgeSel ≠ pol ∧ captureGate ch pol b = some (.edgeNotSelected ch))
    ∨ (b.capEnabled = true ∧ (b.cap ch).edgeSel = pol ∧ captureGate ch pol b = none) := by
  by_cases h : b.capEnabled = true
  · by_cases hp : (b.cap ch).edgeSel = pol
    · exact .inr (.inr ⟨h, hp, (captureGate_none_iff ch pol b).2 ⟨h, hp⟩⟩)
    · exact .inr (.inl ⟨h, hp, captureGate_unselected h (fun e => hp e.symm)⟩)
  · exact .inl ⟨by simpa using h, captureGate_disabled (by simpa using h)⟩

/-! The validator and the write of a width (rules R144, R176, R210). -/

/-- `Validate` answers in one of its three stages. -/
theorem validate_cases (K : Config) (w : Half) (armed : Bool) :
    ((w.toNat < K.rangeMin ∨ K.rangeMax < w.toNat) ∧ validate K w armed = ⟨0, false, [.pulseOutOfRange w]⟩)
    ∨ (K.rangeMin ≤ w.toNat ∧ w.toNat ≤ K.rangeMax ∧ armed = false
        ∧ (w.toNat < K.neutralMin ∨ K.neutralMax < w.toNat)
        ∧ validate K w armed = ⟨0, false, [.unarmedOffNeutral w]⟩)
    ∨ (K.rangeMin ≤ w.toNat ∧ w.toNat ≤ K.rangeMax
        ∧ (armed = true ∨ (K.neutralMin ≤ w.toNat ∧ w.toNat ≤ K.neutralMax))
        ∧ validate K w armed = ⟨(w.toNat : Int) - K.center, true, []⟩) := by
  unfold validate
  split
  · exact .inl ⟨by assumption, rfl⟩
  · split
    · rename_i h₁ h₂
      exact .inr (.inl ⟨by omega, by omega, h₂.1, h₂.2, rfl⟩)
    · rename_i h₁ h₂
      refine .inr (.inr ⟨by omega, by omega, ?_, rfl⟩)
      cases armed
      · right; simp at h₂; omega
      · exact .inl rfl

theorem acceptWidth_chan_same (K : Config) (ch : Channel) (w : Half) (b : Block) :
    (acceptWidth K ch w b).chan ch =
      { raw := w, value := BitVec.ofInt 16 (validate K w (b.chan ch).armed).value,
        armed := (validate K w (b.chan ch).armed).armed } := by
  simp [acceptWidth]

theorem acceptWidth_chan_other (K : Config) (ch ch' : Channel) (w : Half) (b : Block) (h : ch' ≠ ch) :
    (acceptWidth K ch w b).chan ch' = b.chan ch' :=
  setChan_chan_other b ch ch' _ h

@[simp] theorem acceptWidth_cap (K : Config) (ch ch' : Channel) (w : Half) (b : Block) :
    (acceptWidth K ch w b).cap ch' = b.cap ch' := by simp [acceptWidth]

@[simp] theorem acceptWidth_cap1 (K : Config) (ch : Channel) (w : Half) (b : Block) :
    (acceptWidth K ch w b).cap1 = b.cap1 := by simp [acceptWidth]

@[simp] theorem acceptWidth_cap2 (K : Config) (ch : Channel) (w : Half) (b : Block) :
    (acceptWidth K ch w b).cap2 = b.cap2 := by simp [acceptWidth]

@[simp] theorem acceptWidth_capEnabled (K : Config) (ch : Channel) (w : Half) (b : Block) :
    (acceptWidth K ch w b).capEnabled = b.capEnabled := by simp [acceptWidth]

@[simp] theorem acceptWidth_ser (K : Config) (ch : Channel) (w : Half) (b : Block) :
    (acceptWidth K ch w b).ser = b.ser := by simp [acceptWidth]

@[simp] theorem acceptWidth_latch (K : Config) (ch : Channel) (w : Half) (b : Block) :
    (acceptWidth K ch w b).latch = b.latch := by simp [acceptWidth]

@[simp] theorem acceptWidth_wdt (K : Config) (ch : Channel) (w : Half) (b : Block) :
    (acceptWidth K ch w b).wdt = b.wdt := by simp [acceptWidth]

@[simp] theorem acceptWidth_armedCount (K : Config) (ch : Channel) (w : Half) (b : Block) :
    (acceptWidth K ch w b).armedCount = b.armedCount := by simp [acceptWidth]

/-- Blocks that agree outside the serial frame state agree field for field. -/
theorem sameOutsideSerial_iff (b c : Block) : b.sameOutsideSerial c ↔
    b.chan1 = c.chan1 ∧ b.chan2 = c.chan2 ∧ b.cap1 = c.cap1 ∧ b.cap2 = c.cap2 ∧ b.capEnabled = c.capEnabled
      ∧ b.latch = c.latch ∧ b.wdt = c.wdt ∧ b.armedCount = c.armedCount := by
  cases b; cases c; simp [Block.sameOutsideSerial]

/-! The steps of `RX_BYTE` (rules R170 to R175). -/

/-- A byte takes exactly one of the steps of rule R170. -/
theorem rxByteEffect_cases (K : Config) (byte : Byte) (b : Block) :
    ((b.ser.prev.toNat = K.sync0 ∧ byte.toNat = K.sync1) ∧ rxByteEffect K byte b = markerStep K byte b)
    ∨ (¬ (b.ser.prev.toNat = K.sync0 ∧ byte.toNat = K.sync1) ∧ b.ser.mode = .search
        ∧ rxByteEffect K byte b = searchStep byte b)
    ∨ (¬ (b.ser.prev.toNat = K.sync0 ∧ byte.toNat = K.sync1) ∧ b.ser.mode = .extract
        ∧ rxByteEffect K byte b = extractStep K byte b) := by
  by_cases hm : completesMarker K b.ser byte = true
  · exact .inl ⟨(completesMarker_iff K b.ser byte).1 hm, by simp [rxByteEffect, hm]⟩
  · have hn : ¬ (b.ser.prev.toNat = K.sync0 ∧ byte.toNat = K.sync1) :=
      fun h => hm ((completesMarker_iff K b.ser byte).2 h)
    cases hs : b.ser.mode
    · exact .inr (.inl ⟨hn, rfl, by simp [rxByteEffect, hm, hs]⟩)
    · exact .inr (.inr ⟨hn, rfl, by simp [rxByteEffect, hm, hs]⟩)

/-- A byte inside a frame is the first of a pair, ends a slot, or ends the frame. -/
theorem extractStep_cases (K : Config) (byte : Byte) (b : Block) :
    ((b.ser.pos + 1).toNat % 2 = 1
        ∧ extractStep K byte b = firstByteStep byte (movePosition b))
    ∨ ((b.ser.pos + 1).toNat % 2 = 0 ∧ (b.ser.pos + 1).toNat / 2 ≤ K.nSlots
        ∧ extractStep K byte b = slotStep K ((b.ser.pos + 1).toNat / 2) (littleEndian b.ser.prev byte) byte
            (movePosition b))
    ∨ ((b.ser.pos + 1).toNat % 2 = 0 ∧ K.nSlots < (b.ser.pos + 1).toNat / 2
        ∧ extractStep K byte b = checksumStep K (littleEndian b.ser.prev byte) byte
            (movePosition b)) := by
  by_cases h1 : (b.ser.pos + 1).toNat % 2 = 1
  · exact .inl ⟨h1, by simp only [extractStep, h1, if_true]⟩
  · by_cases h2 : (b.ser.pos + 1).toNat / 2 ≤ K.nSlots
    · exact .inr (.inl ⟨by omega, h2, by simp only [extractStep, h1, h2, if_true, if_false]⟩)
    · exact .inr (.inr ⟨by omega, by omega, by simp only [extractStep, h1, h2, if_false]⟩)

@[simp] theorem setSer_setSer (b : Block) (x y : SerialFrameState) : (b.setSer x).setSer y = b.setSer y := rfl

/-- The checksum step with the right field: the frame is committed, one update cycle runs, and the capture path
is handed over (rule R175). -/
theorem checksumStep_match {K : Config} {v : Half} {byte : Byte} {b : Block} (h : v = b.ser.acc) :
    checksumStep K v byte b =
      { blk := handover (updateCycle K (commitFrame K (b.setSer { b.ser with mode := .search, prev := byte })))
        raised := commitRaises K (b.setSer { b.ser with mode := .search, prev := byte }) } :=
  if_pos h

/-- The checksum step with a wrong field: only the serial frame state changes (rule R175). -/
theorem checksumStep_mismatch {K : Config} {v : Half} {byte : Byte} {b : Block} (h : v ≠ b.ser.acc) :
    checksumStep K v byte b =
      { blk := b.setSer { b.ser with mode := .search, prev := byte }
        raised := [.checksumMismatch v b.ser.acc] } :=
  if_neg h

/-! Events and steps. -/

/-- What an event does to the block, by event. -/
def effectOf (K : Config) (i : Instr) (b : Block) : Effect :=
  match i with
  | .edgeRise ch ts => edgeRiseEffect ch ts b
  | .edgeFall ch ts => edgeFallEffect K ch ts b
  | .rxByte byte => rxByteEffect K byte b
  | .tick => tickEffect b
  | .wdtClock => wdtClockEffect K b
  | .snapshot => snapshotEffect b
  | .reset => resetEffect K

/-- Every event completes, with its effect. -/
theorem exec_eq (i : Instr) (s : State) : exec i s = .next (s.afterEvent (effectOf s.cfg i s.blk)) := by
  cases i <;> rfl

/-- If `exec` answers a next state, it is the state after the event's effect. -/
theorem exec_next_iff (i : Instr) (s t : State) :
    exec i s = .next t ↔ t = s.afterEvent (effectOf s.cfg i s.blk) := by
  rw [exec_eq]
  exact ⟨fun h => (Host.Outcome.next.inj h).symm, fun h => h ▸ rfl⟩

theorem fetch_nil {s : State} (h : s.events = []) : s.fetch = none := by simp [State.fetch, h]

theorem fetch_cons {s : State} {w : EventWord} {rest : List EventWord} (h : s.events = w :: rest) :
    s.fetch = some (w, { s with events := rest }) := by simp [State.fetch, h]

/-- Processing a word always goes on: it runs the event the word spells, or refuses the word. -/
theorem processWord_eq (w : EventWord) (s : State) :
    processWord w s = .next (match decode s.cfg w with
      | .error _ => (s.refuseEvent w).retire
      | .ok i => (s.afterEvent (effectOf s.cfg i s.blk)).retire) := by
  unfold processWord
  cases decode s.cfg w with
  | error e => rfl
  | ok i => simp only [exec_eq]

/-- A step that answers a next state waited, ran one event, or refused one word. -/
theorem step_next_cases {s t : State} (h : step s = .next t) :
    s.cfg.Admitted ∧
    ((s.events = [] ∧ t = s)
    ∨ (∃ w rest i, s.platformReady = true ∧ s.events = w :: rest ∧ decode s.cfg w = .ok i
        ∧ t = (State.afterEvent { s with events := rest } (effectOf s.cfg i s.blk)).retire)
    ∨ (∃ w rest e, s.platformReady = true ∧ s.events = w :: rest ∧ decode s.cfg w = .error e
        ∧ t = (State.refuseEvent { s with events := rest } w).retire)) := by
  unfold step advance at h
  split at h
  case isFalse => exact absurd h (by simp)
  rename_i ha
  refine ⟨ha, ?_⟩
  unfold takeEvent at h
  cases hev : s.events with
  | nil =>
    rw [fetch_nil hev] at h
    exact .inl ⟨rfl, (Host.Outcome.next.inj h).symm⟩
  | cons w rest =>
    rw [fetch_cons hev] at h
    cases hr : s.platformReady with
    | false => simp [hr] at h
    | true =>
      simp only [hr, if_true, processWord_eq] at h
      cases hd : decode s.cfg w with
      | ok i => exact .inr (.inl ⟨w, rest, i, rfl, rfl, hd, by simpa [hd] using h.symm⟩)
      | error e => exact .inr (.inr ⟨w, rest, e, rfl, rfl, hd, by simpa [hd] using h.symm⟩)

/-- A step that has a word to take, at a ready platform under an admitted configuration. -/
theorem step_of_word {s : State} {w : EventWord} {rest : List EventWord} (ha : s.cfg.Admitted)
    (hr : s.platformReady = true) (he : s.events = w :: rest) :
    step s = processWord w { s with events := rest } := by
  simp only [step, advance, takeEvent, fetch_cons he, hr, if_true]
  exact if_pos ha

/-- A run of `n + 1` steps is a step that goes on and a run of `n` steps. -/
theorem run_succ_of_next {s t : State} (n : Nat) (h : step s = .next t) :
    Host.Core.run Sys2Proof.core (n + 1) s = Host.Core.run Sys2Proof.core n t := by
  have h' : Sys2Proof.core.step s = .next t := h
  simp only [Host.Core.run, h']

/-- The effect of an event adds entries of this event only. -/
theorem entries_index {e : Effect} {n : Nat} {x : TraceEntry} (h : x ∈ e.entries n) : x.index = n := by
  simp only [Effect.entries, List.mem_append, List.mem_map, Option.mem_toList, Option.map_eq_some_iff] at h
  rcases h with ⟨c, -, rfl⟩ | ⟨r, -, rfl⟩ <;> rfl

end Sys2Proof.Machine
end

