-- ==== Sys2Proof/Laws/PerInstr.lean ====
section
/-! SUPPORT. What holds of each event as syntax, one lemma per constructor. -/

namespace Sys2Proof.Laws.OpcodeNibble

/-- The top four bits of an event's word are the opcode rule R101 gives it, and its low 28 bits its operand
fields. -/
def Statement (i : Instr) : Prop :=
  (encode i).extractLsb' 28 4 = i.opcode ∧ (encode i).extractLsb' 0 28 = i.operandBits

theorem edgeRise (ch : Channel) (ts : Stamp) : Statement (.edgeRise ch ts) :=
  ⟨BitVec.extractLsb'_append_eq_left, BitVec.extractLsb'_append_eq_right⟩

theorem edgeFall (ch : Channel) (ts : Stamp) : Statement (.edgeFall ch ts) :=
  ⟨BitVec.extractLsb'_append_eq_left, BitVec.extractLsb'_append_eq_right⟩

theorem rxByte (b : Byte) : Statement (.rxByte b) :=
  ⟨BitVec.extractLsb'_append_eq_left, BitVec.extractLsb'_append_eq_right⟩

theorem tick : Statement .tick := ⟨by decide, by decide⟩

theorem wdtClock : Statement .wdtClock := ⟨by decide, by decide⟩

theorem snapshot : Statement .snapshot := ⟨by decide, by decide⟩

theorem reset : Statement .reset := ⟨by decide, by decide⟩

end Sys2Proof.Laws.OpcodeNibble
end

