-- ==== Sys2Proof/Tests/Slice0.lean ====
section
/-! SUPPORT. Tests on fixed values. Expected values come from the tables and vectors of spec/95_test_vectors.md and
from the encoding tables of spec/30_encoding.md, not from the model. The second half shows, for every statement of
Obligations.lean that has hypotheses, a state and operands that meet all of them together. -/

open Sys2Proof Sys2Proof.Machine

namespace Sys2Proof.Tests

/-! ## Helpers -/

/-- `State.reset` with another block state. -/
def withBlk (b : Block) : State := { State.reset with blk := b }

/-- The reset block. -/
def blk0 : Block := Block.reset Config.tc

/-- Does this event, in this state, complete in a state with this property? -/
def after (i : Instr) (s : State) (p : State → Bool) : Bool :=
  match exec i s with
  | .next t => p t
  | .fault _ => false
  | .refused _ => false

/-- Does one step of the machine complete in a state with this property? -/
def afterStep (s : State) (p : State → Bool) : Bool :=
  match step s with
  | .next t => p t
  | .fault _ => false
  | .refused _ => false

/-- The codes of the conditions in a trace. -/
def codes (s : State) : List Byte :=
  s.trace.filterMap (fun e => match e.seen with
    | .raised c => some c.code
    | .refusedEvent _ => none
    | .returned _ => none)

/-- A latch from its six fields, in the order of the spec's tuples. -/
def latch (da : Half) (fa ra : Bool) (db : Half) (fb rb : Bool) : OutputLatch := OutputLatch.mk da fa ra db fb rb

/-- The reset block with a rising edge latched on channel 1. -/
def risen (ts : Stamp) : Block := blk0.setCap .ch1 { edgeSel := .falling, rise := ts }

/-- Channel 1 armed at value 200, as in vectors CP11 and CP12, with a rising edge latched at 100. -/
def armed200 : Block :=
  { risen 100 with
    chan1 := { raw := 1700, value := 200, armed := true }
    latch := latch 109 true false 109 true false
    armedCount := 1 }

/-- The block inside a frame. -/
def inFrame (prev : Byte) (pos : Byte) (acc : Half) : Block :=
  { blk0 with ser := { prev := prev, mode := .extract, pos := pos, acc := acc, stage1 := 1500, stage2 := 1500 } }

/-- The block after hand-over. -/
def handedOver : Block := { blk0 with capEnabled := false }

/-- `TC` with one slot per frame, for short frames. -/
def oneSlot : Config := { Config.tc with nSlots := 1, slotCh2 := 1 }

/-- `TC` with a duty map given as a table (rule R253): magnitudes 51 to 53 below `T_MAX = 54`. -/
def tableConfig : Config := { Config.tc with tMax := 54, dutyShape := .table [50, 50, 200] }

/-! ## Well-formed events (rule R107), with the terms the check refuses -/

theorem test_wf_edgeRise : Instr.wellFormed Config.tc (.edgeRise .ch1 0xFFFF) = true
    ∧ Instr.wellFormed Config.tc (.edgeRise .ch1 0x10000) = false := by decide
theorem test_wf_edgeFall : Instr.wellFormed Config.tc (.edgeFall .ch2 0xFFFF) = true
    ∧ Instr.wellFormed Config.tc (.edgeFall .ch2 0x10000) = false := by decide
theorem test_wf_others : ∀ i ∈ [Instr.rxByte 0xFF, .tick, .wdtClock, .snapshot, .reset],
    i.wellFormed Config.tc = true := by decide

/-! ## Words written out from rules R102 to R104 -/

theorem test_decode_edgeRise_ch1 :
    decode Config.tc 0b0001_0_1_00_000000000000001111101000#32 = .ok (.edgeRise .ch1 1000) := by decide
theorem test_decode_edgeRise_ch2 :
    decode Config.tc 0b0001_1_1_00_000000000000010001001100#32 = .ok (.edgeRise .ch2 1100) := by decide
theorem test_decode_edgeFall_ch1 :
    decode Config.tc 0b0001_0_0_00_000000000000100111000100#32 = .ok (.edgeFall .ch1 2500) := by decide
theorem test_decode_edgeFall_ch2 :
    decode Config.tc 0b0001_1_0_00_000000000000101000101000#32 = .ok (.edgeFall .ch2 2600) := by decide
theorem test_decode_rxByte :
    decode Config.tc 0b0010_00000000000000000000_11011100#32 = .ok (.rxByte 0xDC) := by decide
theorem test_decode_tick : decode Config.tc 0b0011_0000000000000000000000000000#32 = .ok .tick := by decide
theorem test_decode_wdtClock : decode Config.tc 0b0100_0000000000000000000000000000#32 = .ok .wdtClock := by decide
theorem test_decode_snapshot : decode Config.tc 0b0101_0000000000000000000000000000#32 = .ok .snapshot := by decide
theorem test_decode_reset : decode Config.tc 0b0110_0000000000000000000000000000#32 = .ok .reset := by decide

theorem test_encode_words :
    [Instr.edgeRise .ch1 500, .edgeFall .ch1 500, .edgeRise .ch2 10, .rxByte 0x20, .tick, .wdtClock, .snapshot,
      .reset].map encode
    = [0x140001F4, 0x100001F4, 0x1C00000A, 0x20000020, 0x30000000, 0x40000000, 0x50000000, 0x60000000] := by decide

/-- The refused words of 95_test_vectors.md section 2.9, with the reason it gives each. -/
theorem test_decode_refused :
    [0x00000000#32, 0x70000000#32, 0xF0000000#32, 0x15000000#32, 0x16000000#32, 0x14010000#32, 0x20000100#32,
      0x30000001#32, 0x50000010#32, 0x6FFFFFFF#32].map (decode Config.tc)
    = [.error .reservedOpcode, .error .reservedOpcode, .error .reservedOpcode, .error .reservedBits,
      .error .reservedBits, .error .timestampTooWide, .error .reservedBits, .error .reservedBits,
      .error .reservedBits, .error .reservedBits] := by decide

theorem test_decodeTableWord : decodeTableWord 32 0x18000A28 = some (.edgeFall .ch2 2600)
    ∧ decodeTableWord 32 0x70000000 = none := by decide

/-! ## Operands, validator, mixer, output driver (95_test_vectors.md sections 2.1 to 2.4) -/

/-- Section 2.1, unarmed. -/
theorem test_validate_unarmed :
    [0, 799, 800, 1449, 1450, 1460, 1500, 1550, 1551, 2200, 2201, 65535].map (fun w =>
      let v := validate Config.tc (BitVec.ofNat 16 w) false; (v.value, v.armed, v.raised.map Condition.code))
    = [(0, false, [1]), (0, false, [1]), (0, false, [2]), (0, false, [2]), (-50, true, []), (-40, true, []),
      (0, true, []), (50, true, []), (0, false, [2]), (0, false, [2]), (0, false, [1]), (0, false, [1])] := by decide
/-- Section 2.1, armed. -/
theorem test_validate_armed :
    [0, 799, 800, 1449, 1551, 1700, 2200, 2201, 65535].map (fun w =>
      let v := validate Config.tc (BitVec.ofNat 16 w) true; (v.value, v.armed, v.raised.map Condition.code))
    = [(0, false, [1]), (0, false, [1]), (-700, true, []), (-51, true, []), (51, true, []), (200, true, []),
      (700, true, []), (0, false, [1]), (0, false, [1])] := by decide
/-- Section 2.2. -/
theorem test_mix : [(200, -50), (50, 0), (-40, 40), (700, 700), (-700, 700), (700, -700)].map (fun c =>
      let m := mix Config.tc c.1 c.2; (m.mA, m.mB))
    = [(150, 250), (50, 50), (0, -80), (1400, 0), (0, -1400), (0, 1400)] := by decide
theorem test_mix_independent :
    mix { Config.tc with mixMode := .independent } 200 (-50) = { mA := 200, mB := -50 } := by decide
/-- Section 2.3. -/
theorem test_drive : [0, 1, -1, 50, -50, 51, -51, 52, 100, 150, -300, 549, 550, 551, 700, -600, 1400].map (fun t =>
      let d := drive Config.tc t; (d.duty.toNat, d.fwd, d.rev))
    = [(0, false, false), (0, false, false), (0, false, false), (0, false, false), (0, false, false),
      (50, true, false), (50, false, true), (50, true, false), (69, true, false), (89, true, false),
      (149, false, true), (249, true, false), (249, true, false), (250, true, false), (250, true, false),
      (250, false, true), (250, true, false)] := by decide
/-- Section 2.3, the pin levels. -/
theorem test_pins :
    halOutputs { Config.tc with invFwdA := true } (latch 89 true false 129 true false)
      = HalOutputs.mk false false true false 89 129
    ∧ halOutputs { Config.tc with invFwdA := true } stoppedLatch = HalOutputs.mk true false false false 0 0
    ∧ halOutputs Config.tc stoppedLatch = HalOutputs.mk false false false false 0 0 := by decide
/-- Section 2.4, first and fourth rows. -/
theorem test_cycleLatch : cycleLatch Config.tc 200 (-50) = latch 89 true false 129 true false
    ∧ cycleLatch Config.tc (-40) 40 = latch 0 false false 61 false true := by decide
/-- Vectors CP6 and CP10, and a difference of one less than the modulus (CP7). -/
theorem test_width : width Config.tc 65000 964 = 1500 ∧ width Config.tc 0 65535 = 65535
    ∧ width { Config.tc with capDen := 2 } 100 3101 = 1500 := by decide
/-- Section 2.6: the checksums of three frames. -/
theorem test_checksum :
    checksumOf Config.tc (payloadBytes (List.replicate 14 1500)) = 0xF3B1
    ∧ checksumOf Config.tc (payloadBytes (1700 :: 1450 :: List.replicate 12 1500)) = 0xF41A
    ∧ checksumOf Config.tc (payloadBytes (2300 :: List.replicate 13 1500)) = 0xF38E := by decide

/-! ## Events -/

/-- Vector CP2. -/
theorem test_edgeRise_latches : after (.edgeRise .ch1 1000) State.reset (fun t =>
    t.blk.cap1 == { edgeSel := .falling, rise := 1000 } && t.blk.wdt == 0 && codes t == []) = true := by decide
/-- Vector CP3. -/
theorem test_edgeRise_unselected : after (.edgeRise .ch1 1200) (withBlk (risen 1000)) (fun t =>
    t.blk == risen 1000 && codes t == [0x08]) = true := by decide
/-- Vector CP6: the timer wraps, and the channel arms. -/
theorem test_edgeFall_arms : after (.edgeFall .ch1 964) (withBlk { risen 65000 with wdt := 3 }) (fun t =>
    t.blk.chan1 == { raw := 1500, value := 0, armed := true } && t.blk.cap1.edgeSel == .rising
      && t.blk.latch == stoppedLatch && t.blk.wdt == 0 && t.blk.armedCount == 1 && codes t == []) = true := by decide
/-- Vector CP11: armed, so a width outside the neutral band passes. -/
theorem test_edgeFall_armed : after (.edgeFall .ch1 1300) (withBlk armed200) (fun t =>
    t.blk.chan1 == { raw := 1200, value := -300, armed := true }
      && t.blk.latch == latch 149 false true 149 false true && codes t == []) = true := by decide
/-- Vector SR1, on a window that holds the first marker byte. -/
theorem test_rxByte_marker :
    after (.rxByte 0x40) (withBlk { blk0 with ser := { blk0.ser with prev := 0x20 } }) (fun t =>
      t.blk.ser.mode == .extract && t.blk.ser.pos == 0 && t.blk.ser.acc == 0xFFFF && t.blk.ser.prev == 0x40
        && codes t == []) = true := by decide
/-- The last byte of vector SR4. -/
theorem test_rxByte_commits : after (.rxByte 0xF3) (withBlk (inFrame 0xB1 29 0xF3B1)) (fun t =>
    t.blk.chan1 == { raw := 1500, value := 0, armed := true } && t.blk.chan2 == t.blk.chan1
      && t.blk.capEnabled == false && t.blk.ser.mode == .search && t.blk.ser.pos == 30
      && t.blk.ser.acc == 0xF3B1 && t.blk.ser.prev == 0xF3 && t.blk.armedCount == 2 && codes t == []) = true := by decide
/-- Vector WD6, at a state away from reset. -/
theorem test_tick : after .tick (withBlk armed200) (fun t => t == withBlk armed200) = true := by decide
/-- Vector WD1, its last clock. -/
theorem test_wdtClock_counts : after .wdtClock (withBlk { armed200 with wdt := 2 }) (fun t =>
    t.blk.wdt == 3 && t.blk.chan1.armed && codes t == []) = true := by decide
/-- Vector WD2, at a state away from reset. -/
theorem test_wdtClock_resets : after .wdtClock (withBlk { armed200 with wdt := 3 }) (fun t =>
    t.blk == blk0 && codes t == [0x10]) = true := by decide
/-- Vector SN1. -/
theorem test_snapshot_reset : after .snapshot State.reset (fun t => t.blk == blk0
    && t.trace == [TraceEntry.mk 1 (.returned
      (Snapshot.mk 0 0 false 0 0 false 0 false false 0 false false 0 true))]) = true := by decide
/-- The record of program P5, on the fields that differ from reset. -/
theorem test_snapshot_fields : after .snapshot (withBlk armed200) (fun t =>
    t.trace == [TraceEntry.mk 1 (.returned
      (Snapshot.mk 1700 200 true 0 0 false 109 true false 109 true false 1 true))]) = true := by decide
/-- Vector SN3, without its frame. -/
theorem test_reset : after .reset (withBlk { armed200 with capEnabled := false, wdt := 2 }) (fun t =>
    t.blk == blk0 && codes t == []) = true := by decide

/-! ## Steps -/

/-- Vector CP1, as a word: the trace entry has its event's index and the channel. -/
theorem test_step_records : afterStep { State.reset with events := [0x100001F4], eventIndex := 7 } (fun t =>
    t.blk == blk0 && t.events == [] && t.eventIndex == 8
      && t.trace == [TraceEntry.mk 7 (.raised (.edgeNotSelected .ch1))]) = true := by decide
/-- A word of section 2.9. -/
theorem test_step_refuses : afterStep (State.reset.withFetchWord 32 0x14010000) (fun t =>
    t.blk == blk0 && t.refusalMark && t.trace == [TraceEntry.mk 1 (.refusedEvent 0x14010000)]) = true := by decide
/-- The breaches of rule R13 listed in section 2.9, and two more, are not admitted. -/
theorem test_refused_configs :
    ∀ K ∈ [{ Config.tc with tMax := 51 }, { Config.tc with tMax := 601 }, { Config.tc with dutyMin := 0 },
      { Config.tc with dutyMax := 256 }, { Config.tc with slotCh1 := 15 }, { Config.tc with wdtLimit := some 0 },
      { Config.tc with timerBits := 17 }, { Config.tc with nSlots := 127 },
      { tableConfig with dutyShape := .table [50, 200, 60] }],
      ¬ Config.Admitted K := by decide
/-- A script line of each kind, with the words rules R114 and R115 give it. -/
theorem test_script_words :
    readScript oneSlot "edge ch1 fall 500 ; a comment\nsnap\npulse ch1 65000 1700\nframe 0x4020\nrxs 0x20 7".toList
    = some [0x100001F4, 0x50000000, 0x1400FDE8, 0x1000048C, 0x20000020, 0x20000040, 0x20000020, 0x20000040,
      0x2000009F, 0x200000FF, 0x20000020, 0x20000007] := by decide

/-! ## States that meet the hypotheses of the statements -/

theorem test_meets_admitted : ∀ K ∈ [Config.tc, oneSlot, tableConfig, { Config.tc with wdtLimit := none },
    { Config.tc with mixMode := .independent }, { Config.tc with timerBits := 24, capDen := 512 },
    { Config.tc with rangeMin := 1450, neutralMin := 1450, neutralMax := 2200 },
    { Config.tc with nSlots := 126, slotCh2 := 126 }], Config.Admitted K := by decide

/-- `EdgeRiseLatchesSelectedEdge`, `UnselectedEdgesAreIgnored`: each clause has its state. -/
theorem test_meets_edgeGates :
    handedOver.capEnabled = false ∧ (blk0.capEnabled = true ∧ (blk0.cap .ch2).edgeSel = .rising)
    ∧ ((risen 0xFFFF).capEnabled = true ∧ ((risen 0xFFFF).cap .ch1).edgeSel = .falling) := by decide

/-- `EdgeFallMeasuresValidatesAndDrives`. -/
theorem test_meets_edgeFall : (withBlk armed200).cfg.Admitted ∧ (withBlk armed200).blk.capEnabled = true
    ∧ ((withBlk armed200).blk.cap .ch1).edgeSel = .falling := by decide

/-- `EdgeOnOneChannelLeavesTheOther`. -/
theorem test_meets_otherChannel : Channel.ch2 ≠ .ch1 ∧ Channel.ch1 ≠ .ch2 := by decide

/-- `ScriptPulseMeasuresItsWidth`, at the highest timestamp, with a word left over. -/
theorem test_meets_scriptPulse :
    let s : State := { State.reset with events := [0x1400FFFF, 0x100005DB, 0x30000000] }
    s.cfg.Admitted ∧ s.platformReady = true ∧ s.cfg.capNum = 1 ∧ s.cfg.capDen = 1 ∧ 65535 < 2 ^ s.cfg.timerBits
    ∧ s.blk.capEnabled = true ∧ (s.blk.cap .ch1).edgeSel = .rising
    ∧ s.events = scriptWords s.cfg (.pulse .ch1 65535 1500) ++ [0x30000000] := by decide

/-- `ArmingOnlyThroughNeutral`: a channel arms at each end of the neutral band. -/
theorem test_meets_arms_low : after (.edgeFall .ch1 1550) (withBlk (risen 100)) (fun t =>
    !(risen 100).chan1.armed && t.blk.chan1.armed && t.blk.chan1.raw == 1450) = true := by decide
theorem test_meets_arms_high : after (.edgeFall .ch1 1650) (withBlk (risen 100)) (fun t =>
    !(risen 100).chan1.armed && t.blk.chan1.armed && t.blk.chan1.raw == 1550) = true := by decide
/-- `ArmingOnlyThroughNeutral`: a channel disarms below the range, above it, and by a reset. -/
theorem test_meets_disarms :
    ∀ i ∈ [Instr.edgeFall .ch1 899, .edgeFall .ch1 2301, .reset], after i (withBlk armed200) (fun t =>
      armed200.chan1.armed && !t.blk.chan1.armed) = true := by decide

/-- `MixIsExactAndBounded`: both ends of the command range, both modes, and the symmetry premise. -/
theorem test_meets_mix : ∀ K ∈ [Config.tc, { Config.tc with mixMode := .independent }], ∀ c ∈ [-700, (700 : Int)],
    K.Admitted ∧ (K.rangeMin : Int) - K.center ≤ c ∧ c ≤ (K.rangeMax : Int) - K.center
    ∧ K.rangeMax - K.center = K.center - K.rangeMin := by decide
/-- `MixBoundHoldsForEveryRange`, in a range that is not symmetric about `CENTER`. -/
theorem test_meets_mixBound :
    let K : Config := { Config.tc with rangeMin := 1400 }
    K.Admitted ∧ (K.rangeMin : Int) - K.center ≤ 700 ∧ (700 : Int) ≤ (K.rangeMax : Int) - K.center := by decide

/-- `DutyMapMeetsItsFourPoints` and `DutyMapInterpolatesRoundingDown`: a magnitude for each clause, at its ends. -/
theorem test_meets_dutyMap : ∀ K ∈ [Config.tc, tableConfig], K.Admitted ∧ 50 ≤ K.outDb ∧ K.tMax ≤ 551
    ∧ (K.outDb < 51 ∧ 51 ≤ 53 ∧ 53 < K.tMax) := by decide
theorem test_meets_interpolated : Config.tc.Admitted ∧ Config.tc.dutyShape = .interpolated := by decide

/-- `MarkerResynchronizes`: in `SEARCH`, and inside a frame at its last position. -/
theorem test_meets_marker :
    ∀ b ∈ [{ blk0 with ser := { blk0.ser with prev := 0x20 } }, inFrame 0x20 29 0],
      (withBlk b).blk.ser.prev.toNat = (withBlk b).cfg.sync0
      ∧ (0x40 : Byte).toNat = (withBlk b).cfg.sync1 := by decide

/-- `SearchOnlyMovesTheWindow`: one half of the marker present, or neither. -/
theorem test_meets_search_firstByte :
    let s := withBlk { blk0 with ser := { blk0.ser with prev := 0x20 } }
    s.blk.ser.mode = .search ∧ ¬ (s.blk.ser.prev.toNat = s.cfg.sync0 ∧ (0x41 : Byte).toNat = s.cfg.sync1) := by decide
theorem test_meets_search_secondByte :
    let s := withBlk { blk0 with ser := { blk0.ser with prev := 0x21 } }
    s.blk.ser.mode = .search ∧ ¬ (s.blk.ser.prev.toNat = s.cfg.sync0 ∧ (0x40 : Byte).toNat = s.cfg.sync1) := by decide

/-- `FirstByteOfPairIsStored`: the first byte of slot 1 and of the checksum field. -/
theorem test_meets_firstByte : ∀ pos ∈ [(0 : Byte), 28],
    let s := withBlk (inFrame 0x40 pos 0)
    s.blk.ser.mode = .extract ∧ ¬ (s.blk.ser.prev.toNat = s.cfg.sync0 ∧ (0x40 : Byte).toNat = s.cfg.sync1)
    ∧ s.blk.ser.pos.toNat % 2 = 0 := by decide

/-- `SlotUpdatesAccumulatorAndStage`: the mapped slots 1 and 2, and the last slot. -/
theorem test_meets_slot : ∀ c ∈ [((1 : Byte), 1), (3, 2), (27, 14)],
    let s := withBlk (inFrame 0xDC c.1 0)
    s.cfg.Admitted ∧ s.blk.ser.mode = .extract
    ∧ ¬ (s.blk.ser.prev.toNat = s.cfg.sync0 ∧ (0x05 : Byte).toNat = s.cfg.sync1)
    ∧ s.blk.ser.pos.toNat + 1 = 2 * c.2 ∧ 1 ≤ c.2 ∧ c.2 ≤ s.cfg.nSlots := by decide

/-- `WrongChecksumDiscardsFrame` (accumulator one off) and `RightChecksumCommitsFrame`. -/
theorem test_meets_wrongChecksum :
    let s := withBlk (inFrame 0xB1 29 0xF3B0)
    s.cfg.Admitted ∧ s.blk.ser.mode = .extract
    ∧ ¬ (s.blk.ser.prev.toNat = s.cfg.sync0 ∧ (0xF3 : Byte).toNat = s.cfg.sync1)
    ∧ s.blk.ser.pos.toNat + 1 = 2 * (s.cfg.nSlots + 1)
    ∧ s.blk.ser.prev.toNat + 256 * (0xF3 : Byte).toNat ≠ s.blk.ser.acc.toNat := by decide
theorem test_meets_rightChecksum :
    let s := withBlk (inFrame 0xB1 29 0xF3B1)
    s.cfg.Admitted ∧ s.blk.ser.mode = .extract
    ∧ ¬ (s.blk.ser.prev.toNat = s.cfg.sync0 ∧ (0xF3 : Byte).toNat = s.cfg.sync1)
    ∧ s.blk.ser.pos.toNat + 1 = 2 * (s.cfg.nSlots + 1)
    ∧ s.blk.ser.prev.toNat + 256 * (0xF3 : Byte).toNat = s.blk.ser.acc.toNat := by decide

/-- `OnlyAValidFrameLeavesTheDecoder`: a byte that ends no valid frame, one field off. -/
theorem test_meets_noFrameEnd : ¬ completesFrame Config.tc (inFrame 0xB1 29 0xF3B0) 0xF3 := by
  unfold completesFrame; decide

/-- The words of a short frame with this checksum field, with a tick after it. -/
def shortFrame (field : Half) : State :=
  { State.resetWith oneSlot with events := byteWords (frameWith oneSlot field [1500]) ++ [0x30000000] }

/-- `ValidFrameUpdatesBothChannels`. -/
theorem test_meets_validFrame :
    let s := shortFrame 0xFF1E
    s.cfg.Admitted ∧ s.platformReady = true ∧ s.blk.ser.mode = .search ∧ [(1500 : Half)].length = s.cfg.nSlots
    ∧ hasMarker s.cfg (BitVec.ofNat 8 s.cfg.sync1) ((frameBytes s.cfg [1500]).drop 2) = false
    ∧ s.events = byteWords (frameBytes s.cfg [1500]) ++ [0x30000000] := by decide
/-- `InvalidFrameUpdatesNothing`: a field one off, without a marker, and one that spells the marker. -/
theorem test_meets_invalidFrame :
    let s := shortFrame 0xFF1F
    s.cfg.Admitted ∧ s.platformReady = true ∧ s.blk.ser.mode = .search ∧ [(1500 : Half)].length = s.cfg.nSlots
    ∧ (0xFF1F : Half) ≠ checksumOf s.cfg (payloadBytes [1500])
    ∧ s.events = byteWords (frameWith s.cfg 0xFF1F [1500]) ++ [0x30000000]
    ∧ hasMarker s.cfg (BitVec.ofNat 8 s.cfg.sync1) ((frameWith s.cfg 0xFF1F [1500]).drop 2) = false := by decide
theorem test_meets_invalidFrame_marker :
    let s := shortFrame 0x4020
    s.cfg.Admitted ∧ s.platformReady = true ∧ s.blk.ser.mode = .search ∧ [(1500 : Half)].length = s.cfg.nSlots
    ∧ (0x4020 : Half) ≠ checksumOf s.cfg (payloadBytes [1500])
    ∧ s.events = byteWords (frameWith s.cfg 0x4020 [1500]) ++ [0x30000000]
    ∧ hasMarker s.cfg (BitVec.ofNat 8 s.cfg.sync1) ((frameWith s.cfg 0x4020 [1500]).drop 2) = true := by decide

/-- `OneFlippedBitChangesTheChecksum`: the lowest and the highest bit. -/
theorem test_meets_flippedBit : 0 < 8 ∧ 7 < 8 := by decide

/-- `DefaultChecksumNeverSpellsMarker`, `InRangeDefaultFrameHoldsNoMarker`: both ends of the range. -/
theorem test_meets_inRangeSlots_low : (List.replicate 14 (800 : Half)).length = 14
    ∧ ∀ x ∈ List.replicate 14 (800 : Half), 800 ≤ x.toNat ∧ x.toNat ≤ 2200 :=
  ⟨rfl, fun x hx => by rw [List.eq_of_mem_replicate hx]; exact ⟨by decide, by decide⟩⟩
theorem test_meets_inRangeSlots_high : (List.replicate 14 (2200 : Half)).length = 14
    ∧ ∀ x ∈ List.replicate 14 (2200 : Half), 800 ≤ x.toNat ∧ x.toNat ≤ 2200 :=
  ⟨rfl, fun x hx => by rw [List.eq_of_mem_replicate hx]; exact ⟨by decide, by decide⟩⟩
/-- `FrameLayout`, and its clause about slot bytes at the only slot. -/
theorem test_meets_layout : [(1500 : Half)].length = oneSlot.nSlots ∧ 0 < [(1500 : Half)].length := by decide

/-- `WatchdogClockCountsOrResets`: the last clock that counts and the first that resets. -/
theorem test_meets_watchdog : Config.tc.wdtLimit = some 4 ∧ 2 + 1 < 4 ∧ ¬ 3 + 1 < 4 := by decide
/-- `InfiniteWatchdogNeverResets`. -/
theorem test_meets_infinite :
    (State.resetWith { Config.tc with wdtLimit := none }).cfg.wdtLimit = none := by decide
/-- `SilentWindowResetsTheBlock`: at a count of 0 and at the last count below the limit. -/
theorem test_meets_silentWindow : ∀ n ∈ [0, 3],
    let s : State := { withBlk { blk0 with wdt := n } with events := List.replicate 4 0x40000000#32 ++ [0x30000000] }
    s.cfg.Admitted ∧ s.platformReady = true ∧ s.cfg.wdtLimit = some 4 ∧ s.blk.wdt < 4
    ∧ s.events = List.replicate 4 0x40000000#32 ++ [0x30000000] := by decide

/-- `UpdateCycleRunsExactlyWhereTriggered`: the two triggers, the two resets, and an event that is neither. -/
theorem test_meets_cycle :
    (runsCycle Config.tc (.edgeFall .ch1 0) (risen 0) ∧ runsCycle Config.tc (.rxByte 0xF3) (inFrame 0xB1 29 0xF3B1))
    ∧ (resetsBlock Config.tc .reset blk0 ∧ resetsBlock Config.tc .wdtClock { blk0 with wdt := 3 })
    ∧ (¬ runsCycle Config.tc .wdtClock { blk0 with wdt := 2 }
      ∧ ¬ resetsBlock Config.tc .wdtClock { blk0 with wdt := 2 }) := by
  refine ⟨⟨by unfold runsCycle; decide, by unfold runsCycle completesFrame; decide⟩,
    ⟨trivial, 4, rfl, by decide⟩, fun h => h, fun h => ?_⟩
  obtain ⟨limit, h1, h2⟩ := h
  cases h1
  exact absurd h2 (by decide)

/-- `HandoverIsOneWay`: a reset sets the enable, a valid frame clears it. -/
theorem test_meets_handover :
    after .reset (withBlk handedOver) (fun t => !handedOver.capEnabled && t.blk.capEnabled) = true
    ∧ after (.rxByte 0xF3) (withBlk (inFrame 0xB1 29 0xF3B1)) (fun t =>
      (inFrame 0xB1 29 0xF3B1).capEnabled && !t.blk.capEnabled) = true := by decide

/-- `MaskedSourcesChangeNothing`: masked by the enable, and by the edge-select bit. -/
theorem test_meets_masked :
    sourceOf (.edgeRise .ch2 10) = some (.capture .ch2)
    ∧ sourceEnabled handedOver (polarityOf (.edgeRise .ch2 10)) (.capture .ch2) = false
    ∧ sourceOf (.edgeFall .ch1 500) = some (.capture .ch1)
    ∧ sourceEnabled blk0 (polarityOf (.edgeFall .ch1 500)) (.capture .ch1) = false := by decide
/-- `ForegroundNeverWrites`. -/
theorem test_meets_foreground : contextOf .snapshot = .foreground := by decide

/-- `TraceGrowsByThisEvent`, `ConfigAndRefusalMarkPersist`: a step from a state whose mark is set. -/
theorem test_meets_step : ∃ t, step { State.reset with events := [0x60000000], refusalMark := true } = .next t
    ∧ t.refusalMark = true := ⟨_, rfl, rfl⟩

/-- `UnreadStateIsUnobservable`: two different blocks with everything unread different. -/
theorem test_meets_indistinct :
    let c : Block := { blk0 with
      cap1 := { edgeSel := .rising, rise := 9 }
      ser := { blk0.ser with pos := 7, acc := 1, stage1 := 2, stage2 := 3 } }
    c ≠ blk0 ∧ blk0.Indistinct Config.tc c := by
  refine ⟨by decide, ⟨fun ch => by cases ch <;> rfl, fun ch => by cases ch <;> rfl, fun ch h => ?_, rfl, rfl, rfl,
    fun h => ?_, fun h => ?_, fun h => ?_, fun h => ?_, rfl, rfl, rfl⟩⟩
  · cases ch <;> exact absurd h (by decide)
  all_goals exact absurd h (by decide)

/-- A good state away from reset: channel 1 armed at value 200 with a rising edge latched. -/
theorem test_meets_inv : (withBlk armed200).Inv := by
  refine ⟨by decide, ⟨fun ch => ?_, fun ch => ?_, fun ch => ?_, fun ch => ?_, by decide, fun limit h => ?_, by decide,
    by decide⟩⟩
  case refine_5 => cases h; decide
  all_goals cases ch <;> decide

/-- `LostSignalStopsTheMotors`: a good state, and a width just below and just above the range (CP12). -/
theorem test_meets_lostSignal : (withBlk armed200).Inv ∧ armed200.capEnabled = true
    ∧ (armed200.cap .ch1).edgeSel = .falling ∧ (∀ ch', ch' ≠ Channel.ch1 → (armed200.chan ch').armed = false)
    ∧ (width Config.tc (armed200.cap .ch1).rise 899).toNat < Config.tc.rangeMin
    ∧ Config.tc.rangeMax < (width Config.tc (armed200.cap .ch1).rise 2301).toNat := by
  refine ⟨test_meets_inv, by decide, by decide, fun ch' h => ?_, by decide, by decide⟩
  cases ch'
  · exact absurd rfl h
  · rfl

/-- `StepKeepsInvariant`: a step that runs an update cycle from a good state. -/
theorem test_meets_stepInv : State.Inv { withBlk armed200 with events := [0x10000514] }
    ∧ ∃ t, step { withBlk armed200 with events := [0x10000514] } = .next t := ⟨test_meets_inv, _, rfl⟩

/-- `StepRunsDecodedEvent`, and `WaitKeepsTheState` with no word. -/
theorem test_meets_stepRuns :
    let s : State := { State.reset with events := [0x1C00044C, 0x60000000] }
    s.cfg.Admitted ∧ s.platformReady = true ∧ s.events = 0x1C00044C :: [0x60000000]
    ∧ decode s.cfg 0x1C00044C = .ok (.edgeRise .ch2 1100) := by decide
theorem test_meets_wait : State.reset.cfg.Admitted ∧ State.reset.events = [] := by decide
/-- `UnadmittedConfigIsRefused`. -/
theorem test_meets_unadmitted :
    ¬ (State.resetWith { Config.tc with wdtLimit := some 0 }).cfg.Admitted := by decide
/-- `EventBeforeBootFaults`. -/
theorem test_meets_beforeBoot :
    let s : State := { State.reset with platformReady := false, events := [0x30000000] }
    s.cfg.Admitted ∧ s.platformReady = false ∧ s.events = [0x30000000] := by decide
/-- `RefusedWordOnlySetsTheMark`, `DecoderRefusesExactlyReservedWords`: a word of each clause, at its edge. -/
theorem test_meets_refusedWord : ∀ w ∈ [0x0FFFFFFF, 0x70000000, 0x15000000, 0x14010000, 0x20000100, 0x30000001],
    let s : State := { State.reset with events := [BitVec.ofNat 32 w] }
    s.cfg.Admitted ∧ s.platformReady = true ∧ refusedWord s.cfg (BitVec.ofNat 32 w).toNat := by
  unfold refusedWord; decide

/-- `DecodeOfEncode`, `EncodeOfDecode`: the widest timestamp, which fills its field where `TIMER_BITS` is 24. -/
theorem test_meets_roundTrip :
    Instr.wellFormed { Config.tc with timerBits := 24, capDen := 512 } (.edgeFall .ch2 0xFFFFFF) = true
    ∧ decode { Config.tc with timerBits := 24, capDen := 512 } 0x18FFFFFF = .ok (.edgeFall .ch2 0xFFFFFF) := by decide

end Sys2Proof.Tests
end

/-! The scope of a run (00_scope.md): which configurations have one, what a step does with a decoded word,
and what no step changes. -/

namespace Sys2Proof.Machine

/-! What a step keeps: one case for each way a step goes on (`step_next_cases`). -/

/-- No step writes the configuration (rule R5). -/
theorem step_cfg {s t : State} (h : step s = .next t) : t.cfg = s.cfg := by
  obtain ⟨-, ⟨-, rfl⟩ | ⟨w, rest, i, -, -, -, rfl⟩ | ⟨w, rest, e, -, -, -, rfl⟩⟩ := step_next_cases h
  case inl => rfl
  case inr.inl => rw [retire_cfg, afterEvent_cfg]
  case inr.inr => rw [retire_cfg, refuseEvent_cfg]

/-- No step clears the refusal mark: a wait and an event keep it, and a refusal sets it (rule R332). -/
theorem step_refusalMark {s t : State} (h : step s = .next t) (hm : s.refusalMark = true) :
    t.refusalMark = true := by
  obtain ⟨-, ⟨-, rfl⟩ | ⟨w, rest, i, -, -, -, rfl⟩ | ⟨w, rest, e, -, -, -, rfl⟩⟩ := step_next_cases h
  case inl => exact hm
  case inr.inl => rw [retire_refusalMark, afterEvent_refusalMark]; exact hm
  case inr.inr => rw [retire_refusalMark, refuseEvent_refusalMark]

/-- Settles O44, from the two frame lemmas of a step. -/
theorem configAndRefusalMarkPersist : Obligations.ConfigAndRefusalMarkPersist :=
  fun _ _ h => ⟨step_cfg h, step_refusalMark h⟩

/-! What a step does with its word, and with its configuration. -/

/-- Processing a word that decodes to an event runs that event to its end. -/
theorem processWord_of_decoded {s : State} {w : EventWord} {i : Instr} (hd : decode s.cfg w = .ok i) :
    processWord w s = .next (s.afterEvent (effectOf s.cfg i s.blk)).retire := by
  rw [processWord_eq, hd]

/-- Settles O49: the event completes with its effect (`exec_eq`), and retiring it counts the index on from that of
the old state, which no effect writes. -/
theorem stepRunsDecodedEvent : Obligations.StepRunsDecodedEvent := by
  intro s w rest i ha hr he hd
  exact ⟨State.afterEvent { s with events := rest } (effectOf s.cfg i s.blk), exec_eq i _,
    (step_of_word ha hr he).trans (processWord_of_decoded (s := { s with events := rest }) hd)⟩

/-- Settles O51: admission is the first thing a step asks (rule R13). -/
theorem unadmittedConfigIsRefused : Obligations.UnadmittedConfigIsRefused := by
  intro s hs
  unfold step advance
  exact if_neg hs

end Sys2Proof.Machine

/-! The block state between events (10_state.md): what an event writes into each part of it, the invariants every
step keeps, how a channel arms and disarms, and which state no event reads before it writes it again. -/

namespace Sys2Proof.Machine

/-! ## What rule R13 asks of an admitted configuration -/

theorem admitted_duty {K : Config} (hK : K.Admitted) :
    0 < K.dutyMin.toNat ∧ K.dutyMin.toNat ≤ K.dutyMax.toNat ∧ K.dutyMax.toNat ≤ K.pwmTop.toNat := by
  obtain ⟨-, -, -, hduty, -⟩ := hK
  exact hduty

theorem admitted_slots {K : Config} (hK : K.Admitted) :
    K.nSlots ≤ 126 ∧ (1 ≤ K.slotCh1 ∧ K.slotCh1 ≤ K.nSlots) ∧ (1 ≤ K.slotCh2 ∧ K.slotCh2 ≤ K.nSlots) := by
  obtain ⟨-, -, -, -, -, -, -, ⟨-, hn⟩, ⟨hlo1, hhi1, hlo2, hhi2⟩, -⟩ := hK
  exact ⟨hn, ⟨hlo1, hhi1⟩, ⟨hlo2, hhi2⟩⟩

theorem admitted_wdtLimit {K : Config} (hK : K.Admitted) : K.wdtLimit ≠ some 0 := by
  obtain ⟨-, -, -, -, -, -, -, -, -, -, -, hwdt, -⟩ := hK
  exact hwdt

theorem admitted_dutyShapeOk {K : Config} (hK : K.Admitted) : K.dutyShapeOk = true := by
  obtain ⟨-, -, -, -, -, -, -, -, -, -, -, -, hshape⟩ := hK
  exact hshape

/-! ## A validated width (rules R210 to R215) -/

/-- The record a channel holds once a width has reached it (rules R144, R176). -/
def acceptedInput (K : Config) (w : Half) (armed : Bool) : ChannelInput :=
  { raw := w, value := BitVec.ofInt 16 (validate K w armed).value, armed := (validate K w armed).armed }

theorem acceptWidth_chan (K : Config) (ch : Channel) (w : Half) (b : Block) :
    (acceptWidth K ch w b).chan ch = acceptedInput K w (b.chan ch).armed :=
  acceptWidth_chan_same K ch w b

/-- A width in range less `CENTER` is not narrowed by 16 bits (rule R215). -/
theorem toInt_ofInt_sub_center {K : Config} {w : Half} (hK : K.Admitted) (hlo : K.rangeMin ≤ w.toNat)
    (hhi : w.toNat ≤ K.rangeMax) :
    (BitVec.ofInt 16 ((w.toNat : Int) - K.center)).toInt = (w.toNat : Int) - K.center := by
  obtain ⟨hrange, hspan, -⟩ := hK
  exact BitVec.toInt_ofInt_eq_self (by decide) (by omega) (by omega)

/-- A width leaves a channel stopped and unarmed, or armed at a value that is the width less `CENTER`. -/
theorem acceptedInput_cases {K : Config} (hK : K.Admitted) (w : Half) (armed : Bool) :
    (acceptedInput K w armed = { raw := w, value := 0, armed := false }
      ∧ (armed = false ∨ w.toNat < K.rangeMin ∨ K.rangeMax < w.toNat))
    ∨ (∃ v : Half, acceptedInput K w armed = { raw := w, value := v, armed := true }
        ∧ v.toInt = (w.toNat : Int) - K.center ∧ K.rangeMin ≤ w.toNat ∧ w.toNat ≤ K.rangeMax
        ∧ (armed = true ∨ (K.neutralMin ≤ w.toNat ∧ w.toNat ≤ K.neutralMax))) := by
  rcases validate_cases K w armed with ⟨hout, hv⟩ | ⟨-, -, hun, -, hv⟩ | ⟨hlo, hhi, hpass, hv⟩
  · exact .inl ⟨by rw [acceptedInput, hv]; rfl, .inr hout⟩
  · exact .inl ⟨by rw [acceptedInput, hv]; rfl, .inl hun⟩
  · exact .inr ⟨_, by rw [acceptedInput, hv], toInt_ofInt_sub_center hK hlo hhi, hlo, hhi, hpass⟩

/-! ## Mixer and output driver at rest (rules R231, R232, R250 to R253) -/

@[simp] theorem mix_zero (K : Config) : mix K 0 0 = { mA := 0, mB := 0 } := by
  unfold mix
  split <;> rfl

theorem dutyMap_of_le_outDb {K : Config} {a : Nat} (h : a ≤ K.outDb) : dutyMap K a = 0 := if_pos h

theorem drive_zero (K : Config) : drive K 0 = { duty := 0, fwd := false, rev := false } := by
  simp [drive, forwardFlag, reverseFlag, dutyMap_of_le_outDb]

/-! ## What an event writes into the block

One inversion lemma per event: the blocks it can leave. -/

theorem edgeRiseEffect_cases (ch : Channel) (ts : Stamp) (b : Block) :
    (∃ c, edgeRiseEffect ch ts b = { blk := b, raised := [c] })
    ∨ edgeRiseEffect ch ts b = { blk := b.setCap ch { edgeSel := .falling, rise := ts } } := by
  unfold edgeRiseEffect
  rcases captureGate_cases ch .rising b with ⟨-, hg⟩ | ⟨-, -, hg⟩ | ⟨-, hsel, hg⟩ <;> rw [hg]
  · exact .inl ⟨_, rfl⟩
  · exact .inl ⟨_, rfl⟩
  · exact .inr (by rw [latchRise, hsel, otherEdge_rising])

theorem edgeFallEffect_cases (K : Config) (ch : Channel) (ts : Stamp) (b : Block) :
    (∃ c, edgeFallEffect K ch ts b = { blk := b, raised := [c] })
    ∨ edgeFallEffect K ch ts b = { blk := updateCycle K (measurePulse K ch ts b)
                                   raised := acceptRaises K ch (width K (b.cap ch).rise ts) b } := by
  unfold edgeFallEffect
  rcases captureGate_cases ch .falling b with ⟨-, hg⟩ | ⟨-, -, hg⟩ | ⟨-, -, hg⟩ <;> rw [hg]
  · exact .inl ⟨_, rfl⟩
  · exact .inl ⟨_, rfl⟩
  · exact .inr rfl

theorem measurePulse_chan_same (K : Config) (ch : Channel) (ts : Stamp) (b : Block) :
    (measurePulse K ch ts b).chan ch = acceptedInput K (width K (b.cap ch).rise ts) (b.chan ch).armed := by
  rw [measurePulse, acceptWidth_chan, setCap_chan]

theorem measurePulse_chan_other (K : Config) {ch ch' : Channel} (ts : Stamp) (b : Block) (h : ch' ≠ ch) :
    (measurePulse K ch ts b).chan ch' = b.chan ch' := by
  rw [measurePulse, acceptWidth_chan_other K ch ch' _ _ h, setCap_chan]

/-- A frame commits each channel's staged value as its width (rule R176). -/
theorem commitFrame_chan (K : Config) (b : Block) (ch : Channel) :
    (commitFrame K b).chan ch = acceptedInput K (b.ser.stage ch) (b.chan ch).armed := by
  cases ch
  · rw [commitFrame, acceptWidth_chan_other K .ch2 .ch1 _ _ (by decide), acceptWidth_chan]; rfl
  · rw [commitFrame, acceptWidth_chan, acceptWidth_chan_other K .ch1 .ch2 _ _ (by decide)]; rfl

theorem wdtClockEffect_cases (K : Config) (b : Block) :
    ((∃ limit, K.wdtLimit = some limit ∧ limit ≤ b.wdt + 1)
      ∧ wdtClockEffect K b = { blk := Block.reset K, raised := [.watchdogTimeout] })
    ∨ ((∀ limit, K.wdtLimit = some limit → b.wdt + 1 < limit)
      ∧ wdtClockEffect K b = { blk := { b with wdt := b.wdt + 1 } }) := by
  by_cases h : limitReached K (b.wdt + 1) = true
  · exact .inl ⟨(limitReached_iff K _).1 h, if_pos h⟩
  · refine .inr ⟨fun limit hl => ?_, if_neg h⟩
    by_contra hle
    exact h ((limitReached_iff K _).2 ⟨limit, hl, by omega⟩)

@[simp] theorem reset_chan (K : Config) (ch : Channel) :
    (Block.reset K).chan ch = { raw := 0, value := 0, armed := false } := by
  cases ch <;> rfl

@[simp] theorem reset_cap (K : Config) (ch : Channel) :
    (Block.reset K).cap ch = { edgeSel := .rising, rise := 0 } := by
  cases ch <;> rfl

/-- The position is in its legal range, and below the end of the frame while one is in progress (rules R41,
R173). -/
def SerialFrameState.PosOk (K : Config) (x : SerialFrameState) : Prop :=
  x.pos.toNat ≤ 2 * (K.nSlots + 1) ∧ (x.mode = .extract → x.pos.toNat < 2 * (K.nSlots + 1))

/-- The position counts on modulo 256 (rule R41). -/
theorem toNat_pos_succ (pos : Byte) : (pos + 1).toNat = (pos.toNat + 1) % 256 := by
  simp [BitVec.toNat_add]

/-- A byte writes the serial frame state alone, unless it ends a valid frame, which is committed, driven and handed
over (rules R170, R175 to R177). In both cases the position stays legal. -/
theorem rxByteEffect_blk {K : Config} (hK : K.Admitted) (byte : Byte) (b : Block) :
    ∃ x : SerialFrameState, (b.ser.PosOk K → x.PosOk K)
      ∧ ((rxByteEffect K byte b).blk = b.setSer x
        ∨ (rxByteEffect K byte b).blk = handover (updateCycle K (commitFrame K (b.setSer x)))) := by
  obtain ⟨hslots, -⟩ := admitted_slots hK
  have hsucc := toNat_pos_succ b.ser.pos
  rcases rxByteEffect_cases K byte b with ⟨-, he⟩ | ⟨-, -, he⟩ | ⟨-, hmode, he⟩ <;> rw [he]
  case inl => exact ⟨_, fun _ => ⟨Nat.zero_le _, fun _ => by simp⟩, .inl rfl⟩
  case inr.inl => exact ⟨{ b.ser with prev := byte }, fun h => h, .inl rfl⟩
  case inr.inr =>
    rcases extractStep_cases K byte b with ⟨hodd, he⟩ | ⟨heven, hle, he⟩ | ⟨heven, hlt, he⟩ <;> rw [he]
    case inl =>
      refine ⟨_, fun h => ?_, .inl rfl⟩
      have hpos := h.2 hmode
      exact ⟨by simp only [movePosition_pos]; omega, fun _ => by simp only [movePosition_pos]; omega⟩
    case inr.inl =>
      refine ⟨_, fun h => ?_, .inl rfl⟩
      exact ⟨by simp only [movePosition_pos]; omega, fun _ => by simp only [movePosition_pos]; omega⟩
    case inr.inr =>
      refine ⟨{ (movePosition b).ser with mode := .search, prev := byte }, fun h => ?_, ?_⟩
      · have hpos := h.2 hmode
        exact ⟨by simp only [movePosition_pos]; omega, nofun⟩
      · by_cases hv : littleEndian b.ser.prev byte = b.ser.acc
        · exact .inr (by rw [checksumStep_match (b := movePosition b) hv, movePosition_setSer])
        · exact .inl (by rw [checksumStep_mismatch (b := movePosition b) hv, movePosition_setSer])

/-! ## The invariants every step keeps -/

/-- A channel record as rules R32, R33, R35 and R213 want it. -/
structure ChannelInput.Ok (K : Config) (c : ChannelInput) : Prop where
  valueRange : (K.rangeMin : Int) - K.center ≤ c.value.toInt ∧ c.value.toInt ≤ (K.rangeMax : Int) - K.center
  unarmedZero : c.armed = false → c.value = 0
  armedValue : c.armed = true → K.rangeMin ≤ c.raw.toNat ∧ c.raw.toNat ≤ K.rangeMax
    ∧ c.value.toInt = (c.raw.toNat : Int) - K.center

/-- The invariants that hold in the middle of an event too, before the update cycle has run. -/
structure Block.InputsOk (K : Config) (b : Block) : Prop where
  chan : ∀ ch, (b.chan ch).Ok K
  rise : ∀ ch, (b.cap ch).rise.toNat < 2 ^ K.timerBits
  pos : b.ser.PosOk K

/-- The invariants an update cycle establishes (rules R280 to R283). -/
structure Block.CycleOk (K : Config) (b : Block) : Prop where
  wdt : ∀ limit, K.wdtLimit = some limit → b.wdt < limit
  count : b.armedCount = armedTotal b.chan1.armed b.chan2.armed
  latch : b.latch = cycleLatch K b.chan1.value.toInt b.chan2.value.toInt

theorem inv_iff (K : Config) (b : Block) : b.Inv K ↔ b.InputsOk K ∧ b.CycleOk K where
  mp h := ⟨⟨fun ch => ⟨h.valueRange ch, h.unarmedZero ch, h.armedValue ch⟩, h.riseFits, h.posBound⟩,
    ⟨h.wdtBelow, h.countLive, h.latchCurrent⟩⟩
  mpr := fun ⟨hi, hc⟩ => ⟨fun ch => (hi.chan ch).valueRange, fun ch => (hi.chan ch).unarmedZero,
    fun ch => (hi.chan ch).armedValue, hi.rise, hi.pos, hc.wdt, hc.count, hc.latch⟩

/-- A stopped, unarmed channel is good at any raw width: `CENTER` lies in the range (rule R13). -/
theorem stoppedInput_ok {K : Config} (hK : K.Admitted) (w : Half) :
    ({ raw := w, value := 0, armed := false } : ChannelInput).Ok K := by
  obtain ⟨hrange, -⟩ := hK
  have hzero : (0 : Half).toInt = 0 := rfl
  exact ⟨by simp only [hzero]; omega, fun _ => rfl, nofun⟩

theorem acceptedInput_ok {K : Config} (hK : K.Admitted) (w : Half) (armed : Bool) :
    (acceptedInput K w armed).Ok K := by
  rcases acceptedInput_cases hK w armed with ⟨he, -⟩ | ⟨v, he, hv, hlo, hhi, -⟩ <;> rw [he]
  · exact stoppedInput_ok hK w
  · exact ⟨by simp only [hv]; omega, nofun, fun _ => ⟨hlo, hhi, hv⟩⟩

/-- Whatever the channels hold, an update cycle drives and counts it, and restarts the watchdog window. -/
theorem updateCycle_cycleOk {K : Config} (hK : K.Admitted) (b : Block) : (updateCycle K b).CycleOk K where
  wdt limit hl := by
    rw [updateCycle_wdt]
    exact Nat.pos_of_ne_zero fun h0 => admitted_wdtLimit hK (h0 ▸ hl)
  count := rfl
  latch := rfl

theorem inv_updateCycle {K : Config} (hK : K.Admitted) {b : Block} (h : b.InputsOk K) : (updateCycle K b).Inv K :=
  (inv_iff K _).2 ⟨⟨fun ch => by rw [updateCycle_chan]; exact h.chan ch,
    fun ch => by rw [updateCycle_cap]; exact h.rise ch, h.pos⟩, updateCycle_cycleOk hK b⟩

theorem inv_handover {K : Config} {b : Block} (h : b.Inv K) : (handover b).Inv K := { h with }

theorem inputsOk_setSer {K : Config} {b : Block} {x : SerialFrameState} (h : b.InputsOk K) (hx : x.PosOk K) :
    (b.setSer x).InputsOk K := { h with pos := hx }

theorem inputsOk_setCap {K : Config} {b : Block} {ch : Channel} {x : CaptureUnit} (h : b.InputsOk K)
    (hx : x.rise.toNat < 2 ^ K.timerBits) : (b.setCap ch x).InputsOk K where
  chan ch' := by rw [setCap_chan]; exact h.chan ch'
  rise ch' := by
    by_cases hc : ch' = ch
    · subst hc; rw [setCap_cap_same]; exact hx
    · rw [setCap_cap_other _ _ _ _ hc]; exact h.rise ch'
  pos := by rw [setCap_ser]; exact h.pos

theorem inputsOk_acceptWidth {K : Config} (hK : K.Admitted) {b : Block} (h : b.InputsOk K) (ch : Channel) (w : Half) :
    (acceptWidth K ch w b).InputsOk K where
  chan ch' := by
    by_cases hc : ch' = ch
    · subst hc; rw [acceptWidth_chan]; exact acceptedInput_ok hK w _
    · rw [acceptWidth_chan_other _ _ _ _ _ hc]; exact h.chan ch'
  rise ch' := by rw [acceptWidth_cap]; exact h.rise ch'
  pos := by rw [acceptWidth_ser]; exact h.pos

theorem inputsOk_measurePulse {K : Config} (hK : K.Admitted) {b : Block} (h : b.InputsOk K) (ch : Channel)
    (ts : Stamp) : (measurePulse K ch ts b).InputsOk K :=
  inputsOk_acceptWidth hK (inputsOk_setCap h (by exact h.rise ch)) ch _

theorem inputsOk_commitFrame {K : Config} (hK : K.Admitted) {b : Block} (h : b.InputsOk K) :
    (commitFrame K b).InputsOk K :=
  inputsOk_acceptWidth hK (inputsOk_acceptWidth hK h .ch1 _) .ch2 _

/-- In the reset state an update cycle changes nothing: both channels are stopped, and so are the motors. -/
theorem updateCycle_reset (K : Config) : updateCycle K (Block.reset K) = Block.reset K := by
  have hlatch : cycleLatch K 0 0 = stoppedLatch := by
    simp only [cycleLatch, mix_zero, drive_zero]; rfl
  exact congrArg (fun l => { Block.reset K with latch := l }) hlatch

/-- The reset state of the block is good (rules R35, R52). -/
theorem inv_reset {K : Config} (hK : K.Admitted) : (Block.reset K).Inv K := by
  rw [← updateCycle_reset]
  refine inv_updateCycle hK ⟨fun ch => ?_, fun ch => ?_, Nat.zero_le _, nofun⟩
  · rw [reset_chan]; exact stoppedInput_ok hK 0
  · rw [reset_cap]; exact Nat.two_pow_pos _

/-! Each event keeps the invariants. -/

theorem inv_edgeRise {K : Config} {b : Block} (h : b.Inv K) (ch : Channel) {ts : Stamp}
    (hts : ts.toNat < 2 ^ K.timerBits) : (edgeRiseEffect ch ts b).blk.Inv K := by
  obtain ⟨hi, hc⟩ := (inv_iff K b).1 h
  rcases edgeRiseEffect_cases ch ts b with ⟨c, he⟩ | he <;> rw [he]
  · exact h
  · exact (inv_iff K _).2 ⟨inputsOk_setCap hi hts, ⟨by simpa using hc.wdt, by simpa using hc.count,
      by simpa using hc.latch⟩⟩

theorem inv_edgeFall {K : Config} (hK : K.Admitted) {b : Block} (h : b.Inv K) (ch : Channel) (ts : Stamp) :
    (edgeFallEffect K ch ts b).blk.Inv K := by
  rcases edgeFallEffect_cases K ch ts b with ⟨c, he⟩ | he <;> rw [he]
  · exact h
  · have hi := ((inv_iff K b).1 h).1
    exact inv_updateCycle hK (inputsOk_measurePulse hK hi ch ts)

theorem inv_rxByte {K : Config} (hK : K.Admitted) {b : Block} (h : b.Inv K) (byte : Byte) :
    (rxByteEffect K byte b).blk.Inv K := by
  obtain ⟨hi, hc⟩ := (inv_iff K b).1 h
  obtain ⟨x, hx, he | he⟩ := rxByteEffect_blk hK byte b <;> rw [he]
  · exact (inv_iff K _).2 ⟨inputsOk_setSer hi (hx hi.pos), { hc with }⟩
  · exact inv_handover (inv_updateCycle hK (inputsOk_commitFrame hK (inputsOk_setSer hi (hx hi.pos))))

theorem inv_wdtClock {K : Config} (hK : K.Admitted) {b : Block} (h : b.Inv K) : (wdtClockEffect K b).blk.Inv K := by
  rcases wdtClockEffect_cases K b with ⟨-, he⟩ | ⟨hbelow, he⟩ <;> rw [he]
  · exact inv_reset hK
  · exact { h with wdtBelow := hbelow }

theorem inv_effectOf {K : Config} (hK : K.Admitted) {b : Block} (h : b.Inv K) {i : Instr}
    (hi : i.wellFormed K = true) : (effectOf K i b).blk.Inv K := by
  cases i with
  | edgeRise ch ts => exact inv_edgeRise h ch (of_decide_eq_true hi)
  | edgeFall ch ts => exact inv_edgeFall hK h ch ts
  | rxByte byte => exact inv_rxByte hK h byte
  | tick => exact h
  | wdtClock => exact inv_wdtClock hK h
  | snapshot => exact h
  | reset => exact inv_reset hK

/-- The decoder accepts no timestamp the timer cannot hold (rule R107). -/
theorem wellFormed_of_decode {K : Config} {w : EventWord} {i : Instr} (h : decode K w = .ok i) :
    i.wellFormed K = true := by
  unfold decode at h
  split at h
  case h_1 => cases h
  case h_2 j _ =>
    split at h
    case isTrue hj => cases h; exact hj
    case isFalse => cases h

/-- Settles O47: the block of a step's state is the old block, which a wait and a refused word keep, or what a
well-formed event leaves of it. -/
theorem stepKeepsInvariant : Obligations.StepKeepsInvariant := by
  rintro s t ⟨hK, hb⟩ h
  refine ⟨by rw [step_cfg h]; exact hK, ?_⟩
  rw [step_cfg h]
  obtain ⟨-, ⟨-, rfl⟩ | ⟨w, rest, i, -, -, hd, rfl⟩ | ⟨w, rest, e, -, -, -, rfl⟩⟩ := step_next_cases h
  case inl => exact hb
  case inr.inl => exact inv_effectOf hK hb (wellFormed_of_decode hd)
  case inr.inr => exact hb

/-- Settles O48: the reset block is good under every admitted configuration, and the test configuration is one. -/
theorem resetMeetsInvariant : Obligations.ResetMeetsInvariant :=
  have hreset : ∀ K : Config, K.Admitted → (State.resetWith K).Inv := fun _ hK => ⟨hK, inv_reset hK⟩
  ⟨hreset, hreset Config.tc (by decide)⟩

/-! ## How a channel arms and disarms (rules R34, R216) -/

/-- An event leaves a channel's record as it is, unless it resets the block or brings the channel a width. -/
theorem effectOf_chan_cases {K : Config} (hK : K.Admitted) (i : Instr) (b : Block) (ch : Channel) :
    (effectOf K i b).blk.chan ch = b.chan ch
    ∨ (resetsBlock K i b ∧ (effectOf K i b).blk = Block.reset K)
    ∨ ∃ w, (effectOf K i b).blk.chan ch = acceptedInput K w (b.chan ch).armed := by
  cases i with
  | edgeRise c ts =>
    rcases edgeRiseEffect_cases c ts b with ⟨x, he⟩ | he <;> rw [effectOf, he]
    · exact .inl rfl
    · exact .inl (setCap_chan b c ch _)
  | edgeFall c ts =>
    rcases edgeFallEffect_cases K c ts b with ⟨x, he⟩ | he <;> rw [effectOf, he]
    · exact .inl rfl
    · rw [updateCycle_chan]
      by_cases hc : ch = c
      · subst hc; exact .inr (.inr ⟨_, measurePulse_chan_same K ch ts b⟩)
      · exact .inl (measurePulse_chan_other K ts b hc)
  | rxByte byte =>
    obtain ⟨x, -, he | he⟩ := rxByteEffect_blk hK byte b <;> rw [effectOf, he]
    · exact .inl (setSer_chan b x ch)
    · refine .inr (.inr ⟨x.stage ch, ?_⟩)
      rw [handover_chan, updateCycle_chan, commitFrame_chan, setSer_ser, setSer_chan]
  | tick => exact .inl rfl
  | wdtClock =>
    rcases wdtClockEffect_cases K b with ⟨hlim, he⟩ | ⟨-, he⟩ <;> rw [effectOf, he]
    · exact .inr (.inl ⟨hlim, rfl⟩)
    · exact .inl rfl
  | snapshot => exact .inl rfl
  | reset => exact .inr (.inl ⟨trivial, rfl⟩)

/-- Settles O9: a reset arms no channel, and a width arms or disarms one only by the validator's stages
(`acceptedInput_cases`). -/
theorem armingOnlyThroughNeutral : Obligations.ArmingOnlyThroughNeutral := by
  intro i s t ch hK h
  rw [(exec_next_iff i s t).1 h, afterEvent_blk]
  rcases effectOf_chan_cases hK i s.blk ch with he | ⟨hreset, he⟩ | ⟨w, he⟩ <;> rw [he]
  case inl => exact ⟨fun hun harm => by simp [hun] at harm, fun harm hun => by simp [hun] at harm⟩
  case inr.inl => exact ⟨fun _ harm => by simp at harm, fun _ _ => .inl hreset⟩
  case inr.inr =>
    rcases acceptedInput_cases hK w (s.blk.chan ch).armed with ⟨hw, hwhy⟩ | ⟨v, hw, hv, -, -, hwhy⟩ <;> rw [hw]
    · exact ⟨nofun, fun harm _ => .inr (hwhy.resolve_left (by simp [harm]))⟩
    · refine ⟨fun hun _ => ?_, nofun⟩
      obtain ⟨hlo, hhi⟩ := hwhy.resolve_left (by simp [hun])
      exact ⟨hlo, hhi, hv⟩

/-! ## What the latch can hold (rules R44, R250 to R253) -/

/-- What rule R253 gives of an admitted table: its entries lie between `DUTY_MIN`, the first of them, and
`DUTY_MAX`. -/
theorem mem_table_bounds {K : Config} {vs : List Half} {v : Half} (hshape : K.dutyShape = .table vs)
    (hok : K.dutyShapeOk = true) (hv : v ∈ vs) :
    K.dutyMin.toNat ≤ v.toNat ∧ v.toNat ≤ K.dutyMax.toNat := by
  simp only [Config.dutyShapeOk, hshape, Bool.and_eq_true, decide_eq_true_eq, List.all_eq_true] at hok
  obtain ⟨⟨⟨-, hhead⟩, hmax⟩, hmono⟩ := hok
  refine ⟨?_, hmax v hv⟩
  obtain ⟨rest, rfl⟩ := List.head?_eq_some_iff.1 hhead
  rcases List.mem_cons.1 hv with rfl | hrest
  · exact le_rfl
  · exact List.rel_of_pairwise_cons hmono hrest

theorem length_table {K : Config} {vs : List Half} (hshape : K.dutyShape = .table vs) (hok : K.dutyShapeOk = true) :
    vs.length = K.tMax - (K.outDb + 1) := by
  simp only [Config.dutyShapeOk, hshape, Bool.and_eq_true, decide_eq_true_eq] at hok
  obtain ⟨⟨⟨hlen, -⟩, -⟩, -⟩ := hok
  exact hlen

/-- Rule R252's interpolation stays between the two duties. -/
theorem interpolatedDuty_bounds {K : Config} {a : Nat} (hduty : K.dutyMin.toNat ≤ K.dutyMax.toNat) (ha : a < K.tMax) :
    K.dutyMin.toNat ≤ interpolatedDuty K a ∧ interpolatedDuty K a ≤ K.dutyMax.toNat := by
  have hshare : (a - (K.outDb + 1)) * (K.dutyMax.toNat - K.dutyMin.toNat) / (K.tMax - (K.outDb + 1))
      ≤ K.dutyMax.toNat - K.dutyMin.toNat :=
    Nat.div_le_of_le_mul (Nat.mul_le_mul_right _ (by omega))
  exact ⟨Nat.le_add_right _ _, by unfold interpolatedDuty; omega⟩

/-- Between the deadband and `T_MAX`, an admitted duty map of either shape stays between the two duties. -/
theorem interiorDuty_bounds {K : Config} (hK : K.Admitted) {a : Nat} (hdb : K.outDb < a) (ha : a < K.tMax) :
    K.dutyMin.toNat ≤ (interiorDuty K a).toNat ∧ (interiorDuty K a).toNat ≤ K.dutyMax.toNat := by
  have hok := admitted_dutyShapeOk hK
  cases hshape : K.dutyShape with
  | interpolated =>
    have hb := interpolatedDuty_bounds (admitted_duty hK).2.1 ha
    have hfit : interpolatedDuty K a < 2 ^ 16 := hb.2.trans_lt K.dutyMax.isLt
    simpa only [interiorDuty, hshape, BitVec.toNat_ofNat, Nat.mod_eq_of_lt hfit] using hb
  | table vs =>
    have hidx : a - (K.outDb + 1) < vs.length := by rw [length_table hshape hok]; omega
    simp only [interiorDuty, hshape, List.getD_eq_getElem vs K.dutyMax hidx]
    exact mem_table_bounds hshape hok (List.getElem_mem hidx)

/-- Above the deadband the duty is between the two duties (rule R253). -/
theorem dutyMap_bounds {K : Config} (hK : K.Admitted) {a : Nat} (hdb : K.outDb < a) :
    K.dutyMin.toNat ≤ (dutyMap K a).toNat ∧ (dutyMap K a).toNat ≤ K.dutyMax.toNat := by
  rw [dutyMap, if_neg (Nat.not_le.2 hdb)]
  by_cases ha : K.tMax ≤ a
  · rw [if_pos ha]
    exact ⟨(admitted_duty hK).2.1, le_rfl⟩
  · rw [if_neg ha]
    exact interiorDuty_bounds hK hdb (Nat.lt_of_not_le ha)

theorem dutyMap_eq_zero_iff {K : Config} (hK : K.Admitted) (a : Nat) : dutyMap K a = 0 ↔ a ≤ K.outDb := by
  refine ⟨fun h => Nat.le_of_not_lt fun hdb => ?_, dutyMap_of_le_outDb⟩
  have hmin := (dutyMap_bounds hK hdb).1
  rw [h] at hmin
  exact absurd ((admitted_duty hK).1.trans_le hmin) (by decide)

theorem dutyMap_le_dutyMax {K : Config} (hK : K.Admitted) (a : Nat) : (dutyMap K a).toNat ≤ K.dutyMax.toNat := by
  by_cases hdb : a ≤ K.outDb
  · rw [dutyMap_of_le_outDb hdb]; exact Nat.zero_le _
  · exact (dutyMap_bounds hK (Nat.lt_of_not_le hdb)).2

/-- No command sets both directions (rule R251). -/
theorem drive_not_both (K : Config) (t : Int) : ((drive K t).fwd && (drive K t).rev) = false := by
  simp only [drive, Bool.and_eq_false_iff, forwardFlag, reverseFlag, decide_eq_false_iff_not]
  omega

/-- A motor has duty 0 exactly when it is stopped (rules R251, R253). -/
theorem drive_duty_eq_zero_iff {K : Config} (hK : K.Admitted) (t : Int) :
    (drive K t).duty = 0 ↔ (drive K t).fwd = false ∧ (drive K t).rev = false := by
  simp only [drive, dutyMap_eq_zero_iff hK, forwardFlag, reverseFlag, decide_eq_false_iff_not]
  omega

/-- Settles O16: the latch holds `Drive` of one command for each motor. -/
theorem latchedOutputsConsistent : Obligations.LatchedOutputsConsistent := by
  intro K c1 c2 hK
  obtain ⟨-, -, hduty⟩ := admitted_duty hK
  exact ⟨drive_not_both K _, drive_not_both K _, drive_duty_eq_zero_iff hK _, drive_duty_eq_zero_iff hK _,
    dutyMap_le_dutyMax hK _, dutyMap_le_dutyMax hK _, hduty⟩

/-! ## State no event reads before it writes it again (rules R37, R42, R43)

Every operation takes indistinct blocks to indistinct blocks. -/

/-- What `Block.Indistinct` asks of the two serial frame states. -/
structure SerialFrameState.Indistinct (K : Config) (x y : SerialFrameState) : Prop where
  prev : x.prev = y.prev
  mode : x.mode = y.mode
  pos : x.mode = .extract → x.pos = y.pos
  acc : x.mode = .extract → x.acc = y.acc
  stage1 : x.mode = .extract → 2 * K.slotCh1 ≤ x.pos.toNat → x.stage1 = y.stage1
  stage2 : x.mode = .extract → 2 * K.slotCh2 ≤ x.pos.toNat → x.stage2 = y.stage2

theorem indistinct_refl (K : Config) (b : Block) : b.Indistinct K b :=
  ⟨fun _ => rfl, fun _ => rfl, fun _ _ => rfl, rfl, rfl, rfl, fun _ => rfl, fun _ => rfl, fun _ _ => rfl,
    fun _ _ => rfl, rfl, rfl, rfl⟩

theorem indistinct_setSer {K : Config} {b c : Block} {x y : SerialFrameState} (h : b.Indistinct K c)
    (hx : x.Indistinct K y) : (b.setSer x).Indistinct K (c.setSer y) :=
  { h with prev := hx.prev, mode := hx.mode, pos := hx.pos, acc := hx.acc, stage1 := hx.stage1, stage2 := hx.stage2 }

theorem indistinct_setCap {K : Config} {b c : Block} {x y : CaptureUnit} (h : b.Indistinct K c) (ch : Channel)
    (hsel : x.edgeSel = y.edgeSel) (hrise : x.edgeSel = .falling → x.rise = y.rise) :
    (b.setCap ch x).Indistinct K (c.setCap ch y) := by
  have hcap : ∀ ch', ((b.setCap ch x).cap ch').edgeSel = ((c.setCap ch y).cap ch').edgeSel
      ∧ (((b.setCap ch x).cap ch').edgeSel = .falling →
        ((b.setCap ch x).cap ch').rise = ((c.setCap ch y).cap ch').rise) := by
    intro ch'
    by_cases hc : ch' = ch
    · subst hc; simpa using ⟨hsel, hrise⟩
    · simpa only [setCap_cap_other _ _ _ _ hc] using ⟨h.edgeSel ch', h.rise ch'⟩
  cases ch <;> exact { h with edgeSel := fun ch' => (hcap ch').1, rise := fun ch' => (hcap ch').2 }

theorem indistinct_acceptWidth {K : Config} {b c : Block} (h : b.Indistinct K c) (ch : Channel) (w : Half) :
    (acceptWidth K ch w b).Indistinct K (acceptWidth K ch w c) := by
  have hchan : ∀ ch', (acceptWidth K ch w b).chan ch' = (acceptWidth K ch w c).chan ch' := by
    intro ch'
    by_cases hc : ch' = ch
    · subst hc; rw [acceptWidth_chan, acceptWidth_chan, h.chan]
    · rw [acceptWidth_chan_other _ _ _ _ _ hc, acceptWidth_chan_other _ _ _ _ _ hc, h.chan]
  cases ch <;> exact { h with chan := hchan }

/-- The update cycle and the armed count read the channels only. -/
theorem indistinct_updateCycle {K : Config} {b c : Block} (h : b.Indistinct K c) :
    (updateCycle K b).Indistinct K (updateCycle K c) := by
  have h1 : b.chan1 = c.chan1 := h.chan .ch1
  have h2 : b.chan2 = c.chan2 := h.chan .ch2
  exact { h with
    latch := by rw [updateCycle_latch, updateCycle_latch, h1, h2]
    wdt := rfl
    armedCount := by rw [updateCycle_armedCount, updateCycle_armedCount, h1, h2] }

theorem indistinct_handover {K : Config} {b c : Block} (h : b.Indistinct K c) :
    (handover b).Indistinct K (handover c) := { h with capEnabled := rfl }

theorem acceptRaises_congr {K : Config} {b c : Block} (h : b.Indistinct K c) (ch : Channel) (w : Half) :
    acceptRaises K ch w b = acceptRaises K ch w c := by
  rw [acceptRaises, acceptRaises, h.chan]

/-- What an observer of one event sees is the same, and the blocks stay indistinct. -/
structure Effect.Indistinct (K : Config) (e f : Effect) : Prop where
  blk : e.blk.Indistinct K f.blk
  raised : e.raised = f.raised
  returned : e.returned = f.returned

/-! The capture events read a timestamp only where the unit waits for a falling edge. -/

theorem captureGate_congr {K : Config} {b c : Block} (h : b.Indistinct K c) (ch : Channel) (pol : Edge) :
    captureGate ch pol c = captureGate ch pol b := by
  rw [captureGate, captureGate, h.capEnabled, h.edgeSel]

theorem indistinct_edgeRise {K : Config} {b c : Block} (h : b.Indistinct K c) (ch : Channel) (ts : Stamp) :
    (edgeRiseEffect ch ts b).Indistinct K (edgeRiseEffect ch ts c) := by
  unfold edgeRiseEffect
  rw [captureGate_congr h]
  cases captureGate ch .rising b with
  | some cond => exact ⟨h, rfl, rfl⟩
  | none => exact ⟨indistinct_setCap h ch (by rw [h.edgeSel]) fun _ => rfl, rfl, rfl⟩

theorem indistinct_measurePulse {K : Config} {b c : Block} (h : b.Indistinct K c) (ch : Channel) (ts : Stamp)
    (hrise : (b.cap ch).rise = (c.cap ch).rise) : (measurePulse K ch ts b).Indistinct K (measurePulse K ch ts c) := by
  rw [measurePulse, measurePulse, ← hrise]
  have hsel := congrArg otherEdge (h.edgeSel ch)
  exact indistinct_acceptWidth (indistinct_setCap h ch hsel (by exact fun _ => hrise)) ch _

theorem indistinct_edgeFall {K : Config} {b c : Block} (h : b.Indistinct K c) (ch : Channel) (ts : Stamp) :
    (edgeFallEffect K ch ts b).Indistinct K (edgeFallEffect K ch ts c) := by
  unfold edgeFallEffect
  rw [captureGate_congr h]
  cases hg : captureGate ch .falling b with
  | some cond => exact ⟨h, rfl, rfl⟩
  | none =>
    have hrise := h.rise ch ((captureGate_none_iff ch .falling b).1 hg).2
    dsimp only
    rw [← hrise, acceptRaises_congr h]
    exact ⟨indistinct_updateCycle (indistinct_measurePulse h ch ts hrise), rfl, rfl⟩

/-! The serial decoder reads a frame's position and accumulator after the marker that sets them, and a staged value
after its slot has written it. -/

/-- The position has passed the end of a slot if the next one has, unless the next one is that end. -/
theorem le_pos_of_le_succ {pos : Byte} {slot : Nat} (hle : 2 * slot ≤ (pos + 1).toNat)
    (hne : (pos + 1).toNat ≠ 2 * slot) : 2 * slot ≤ pos.toNat := by
  have hsucc := toNat_pos_succ pos
  omega

/-- The second byte of a pair leaves a staged value that agrees from the end of its slot on: it writes the value at
that end, and after it the old values agree. -/
theorem staged_agree {pos : Byte} {slot : Nat} {v x y : Half} (heven : (pos + 1).toNat % 2 = 0)
    (hxy : 2 * slot ≤ pos.toNat → x = y) (hle : 2 * slot ≤ (pos + 1).toNat) :
    (if (pos + 1).toNat / 2 = slot then v else x) = (if (pos + 1).toNat / 2 = slot then v else y) := by
  by_cases hk : (pos + 1).toNat / 2 = slot
  · rw [if_pos hk, if_pos hk]
  · rw [if_neg hk, if_neg hk]
    exact hxy (le_pos_of_le_succ hle (by omega))

theorem indistinct_commitFrame {K : Config} {b c : Block} (h : b.Indistinct K c) (h1 : b.ser.stage1 = c.ser.stage1)
    (h2 : b.ser.stage2 = c.ser.stage2) : (commitFrame K b).Indistinct K (commitFrame K c) := by
  unfold commitFrame
  rw [← h1, ← h2]
  exact indistinct_acceptWidth (indistinct_acceptWidth h .ch1 _) .ch2 _

theorem commitRaises_congr {K : Config} {b c : Block} (h : b.Indistinct K c) (h1 : b.ser.stage1 = c.ser.stage1)
    (h2 : b.ser.stage2 = c.ser.stage2) : commitRaises K b = commitRaises K c := by
  rw [commitRaises, commitRaises, ← h1, ← h2, acceptRaises_congr h,
    acceptRaises_congr (indistinct_acceptWidth h .ch1 _)]

/-! The steps of `RX_BYTE`; those inside a frame under the facts that hold there. -/

theorem indistinct_markerStep {K : Config} (hK : K.Admitted) {b c : Block} (h : b.Indistinct K c) (byte : Byte) :
    (markerStep K byte b).Indistinct K (markerStep K byte c) := by
  obtain ⟨-, ⟨hslot1, -⟩, ⟨hslot2, -⟩⟩ := admitted_slots hK
  refine ⟨indistinct_setSer h ⟨rfl, rfl, fun _ => rfl, fun _ => rfl, fun _ hle => ?_, fun _ hle => ?_⟩, ?_, rfl⟩
  · exact absurd (show 2 * K.slotCh1 ≤ 0 from hle) (by omega)
  · exact absurd (show 2 * K.slotCh2 ≤ 0 from hle) (by omega)
  · unfold markerStep
    rw [← h.mode]
    cases hm : b.ser.mode with
    | search => rfl
    | extract => rw [h.pos hm]

theorem indistinct_searchStep {K : Config} {b c : Block} (h : b.Indistinct K c) (byte : Byte) :
    (searchStep byte b).Indistinct K (searchStep byte c) :=
  ⟨{ h with prev := rfl }, rfl, rfl⟩

theorem indistinct_firstByteStep {K : Config} {b c : Block} (h : b.Indistinct K c) (byte : Byte)
    (hm : b.ser.mode = .extract) (hodd : (b.ser.pos + 1).toNat % 2 = 1) :
    (firstByteStep byte (movePosition b)).Indistinct K (firstByteStep byte (movePosition c)) := by
  rw [firstByteStep, firstByteStep, movePosition_setSer, movePosition_setSer]
  exact ⟨indistinct_setSer h
    { prev := rfl
      mode := h.mode
      pos := fun _ => congrArg (· + 1) (h.pos hm)
      acc := h.acc
      stage1 := fun _ hle => h.stage1 hm (le_pos_of_le_succ hle (by omega))
      stage2 := fun _ hle => h.stage2 hm (le_pos_of_le_succ hle (by omega)) }, rfl, rfl⟩

theorem indistinct_slotStep {K : Config} {b c : Block} (h : b.Indistinct K c) (v : Half) (byte : Byte)
    (hm : b.ser.mode = .extract) (heven : (b.ser.pos + 1).toNat % 2 = 0) :
    (slotStep K ((b.ser.pos + 1).toNat / 2) v byte (movePosition b)).Indistinct K
      (slotStep K ((b.ser.pos + 1).toNat / 2) v byte (movePosition c)) := by
  rw [slotStep, slotStep, movePosition_setSer, movePosition_setSer]
  exact ⟨indistinct_setSer h
    { prev := rfl
      mode := h.mode
      pos := fun _ => congrArg (· + 1) (h.pos hm)
      acc := fun _ => by simp only [movePosition_acc, movePosition_prev, h.acc hm, h.prev]
      stage1 := fun _ => staged_agree heven (h.stage1 hm)
      stage2 := fun _ => staged_agree heven (h.stage2 hm) }, rfl, rfl⟩

/-- The frame's end reads the accumulator and both staged values. -/
theorem indistinct_checksumStep {K : Config} {b c : Block} (h : b.Indistinct K c) (v : Half) (byte : Byte)
    (hacc : b.ser.acc = c.ser.acc) (h1 : b.ser.stage1 = c.ser.stage1) (h2 : b.ser.stage2 = c.ser.stage2) :
    (checksumStep K v byte (movePosition b)).Indistinct K (checksumStep K v byte (movePosition c)) := by
  have hended : ((movePosition b).setSer { (movePosition b).ser with mode := .search, prev := byte }).Indistinct K
      ((movePosition c).setSer { (movePosition c).ser with mode := .search, prev := byte }) := by
    rw [movePosition_setSer, movePosition_setSer]
    exact indistinct_setSer h ⟨rfl, rfl, nofun, nofun, nofun, nofun⟩
  by_cases hv : v = b.ser.acc
  · rw [checksumStep_match (b := movePosition b) hv, checksumStep_match (b := movePosition c) (hv.trans hacc)]
    exact ⟨indistinct_handover (indistinct_updateCycle (indistinct_commitFrame hended h1 h2)),
      commitRaises_congr hended h1 h2, rfl⟩
  · rw [checksumStep_mismatch (b := movePosition b) hv, checksumStep_mismatch (b := movePosition c) (hacc ▸ hv)]
    exact ⟨hended, by simp only [movePosition_acc, hacc], rfl⟩

theorem indistinct_extractStep {K : Config} (hK : K.Admitted) {b c : Block} (h : b.Indistinct K c) (byte : Byte)
    (hm : b.ser.mode = .extract) : (extractStep K byte b).Indistinct K (extractStep K byte c) := by
  obtain ⟨-, ⟨-, hslot1⟩, ⟨-, hslot2⟩⟩ := admitted_slots hK
  unfold extractStep
  simp only [← h.pos hm, ← h.prev]
  split_ifs with hodd hslot
  · exact indistinct_firstByteStep h byte hm hodd
  · exact indistinct_slotStep h _ byte hm (by omega)
  · exact indistinct_checksumStep h _ byte (h.acc hm)
      (h.stage1 hm (le_pos_of_le_succ (by omega) (by omega)))
      (h.stage2 hm (le_pos_of_le_succ (by omega) (by omega)))

theorem indistinct_rxByte {K : Config} (hK : K.Admitted) {b c : Block} (h : b.Indistinct K c) (byte : Byte) :
    (rxByteEffect K byte b).Indistinct K (rxByteEffect K byte c) := by
  unfold rxByteEffect completesMarker
  rw [← h.prev, ← h.mode]
  split
  · exact indistinct_markerStep hK h byte
  · cases hm : b.ser.mode with
    | search => exact indistinct_searchStep h byte
    | extract => exact indistinct_extractStep hK h byte hm

/-! The supervisor, the diagnostic port and the reset read no such state at all. -/

theorem indistinct_wdtClock {K : Config} {b c : Block} (h : b.Indistinct K c) :
    (wdtClockEffect K b).Indistinct K (wdtClockEffect K c) := by
  unfold wdtClockEffect
  rw [← h.wdt]
  split
  · exact ⟨indistinct_refl K _, rfl, rfl⟩
  · exact ⟨{ h with wdt := rfl }, rfl, rfl⟩

theorem snapshotOf_congr {K : Config} {b c : Block} (h : b.Indistinct K c) : snapshotOf b = snapshotOf c := by
  have h1 : b.chan1 = c.chan1 := h.chan .ch1
  have h2 : b.chan2 = c.chan2 := h.chan .ch2
  rw [snapshotOf, snapshotOf, h1, h2, h.latch, h.armedCount, h.capEnabled]

theorem indistinct_effectOf {K : Config} (hK : K.Admitted) {b c : Block} (h : b.Indistinct K c) (i : Instr) :
    (effectOf K i b).Indistinct K (effectOf K i c) := by
  cases i with
  | edgeRise ch ts => exact indistinct_edgeRise h ch ts
  | edgeFall ch ts => exact indistinct_edgeFall h ch ts
  | rxByte byte => exact indistinct_rxByte hK h byte
  | tick => exact ⟨h, rfl, rfl⟩
  | wdtClock => exact indistinct_wdtClock h
  | snapshot => exact ⟨h, rfl, congrArg some (snapshotOf_congr h)⟩
  | reset => exact ⟨indistinct_refl K _, rfl, rfl⟩

/-- Settles O45: the two effects show the same conditions and the same returned value, so the traces grow by the
same entries. -/
theorem unreadStateIsUnobservable : Obligations.UnreadStateIsUnobservable := by
  intro i s u hK hcfg hindex htrace h
  have heff := indistinct_effectOf hK h i
  refine ⟨_, _, exec_eq i s, exec_eq i u, ?_, ?_⟩
  · rw [afterEvent_trace, afterEvent_trace, htrace, hindex, hcfg, Effect.entries, Effect.entries, heff.raised,
      heff.returned]
  · rw [afterEvent_blk, afterEvent_blk, hcfg]
    exact heff.blk

end Sys2Proof.Machine

/-! How bytes form a 16-bit value (20_memory.md): the operand form of a slot value (rules R73 and R110) as
arithmetic on numbers. -/

namespace Sys2Proof.Machine

theorem toNat_lowByte (v : Half) : (lowByte v).toNat = v.toNat % 256 := by
  rw [lowByte, BitVec.toNat_setWidth]

theorem toNat_highByte (v : Half) : (highByte v).toNat = v.toNat / 256 := by
  have hv := v.isLt
  rw [highByte, BitVec.toNat_setWidth, BitVec.toNat_ushiftRight, Nat.shiftRight_eq_div_pow]
  omega

/-- The two bytes share no bit of the value, so their `or` is a sum. -/
theorem toNat_littleEndian (first second : Byte) :
    (littleEndian first second).toNat = first.toNat + 256 * second.toNat := by
  have hfirst := first.isLt
  have hsecond := second.isLt
  have hlow : (first.setWidth 16).toNat = first.toNat := BitVec.toNat_setWidth_of_le (by decide)
  have hhigh : (second.setWidth 16 <<< 8).toNat = 2 ^ 8 * second.toNat := by
    rw [BitVec.toNat_shiftLeft, BitVec.toNat_setWidth_of_le (by decide), Nat.shiftLeft_eq]
    omega
  calc (littleEndian first second).toNat
      = first.toNat ||| 2 ^ 8 * second.toNat := by rw [littleEndian, BitVec.toNat_or, hlow, hhigh]
    _ = 2 ^ 8 * second.toNat + first.toNat := by rw [Nat.or_comm, Nat.two_pow_add_eq_or_of_lt hfirst]
    _ = first.toNat + 256 * second.toNat := Nat.add_comm _ _

theorem littleEndian_lowByte_highByte (v : Half) : littleEndian (lowByte v) (highByte v) = v := by
  apply BitVec.eq_of_toNat_eq
  rw [toNat_littleEndian, toNat_lowByte, toNat_highByte, Nat.mod_add_div]

/-- Settles O18, from the value of `littleEndian` as a number and its inverse. -/
theorem slotValuesAreLittleEndian : Obligations.SlotValuesAreLittleEndian :=
  ⟨toNat_littleEndian, littleEndian_lowByte_highByte⟩

end Sys2Proof.Machine

/-! The event words (30_encoding.md): the fields of a word, the rows of the opcode table, the decoder and the encoder
as inverses of each other, and what a step does with a word that spells no event. -/

namespace Sys2Proof.Machine

/-! ## Fields of a word -/

/-- Two concatenations of the same widths are equal exactly when their parts are. -/
theorem append_eq_append_iff {m n : Nat} {a c : BitVec m} {b d : BitVec n} :
    a ++ b = c ++ d ↔ a = c ∧ b = d where
  mp h := by
    have hb : b = d := by simpa only [BitVec.extractLsb'_append_eq_right] using congrArg (BitVec.extractLsb' 0 n) h
    subst hb
    exact ⟨(BitVec.append_left_inj b).1 h, rfl⟩
  mpr := by rintro ⟨rfl, rfl⟩; rfl

/-- A field of a word as a number. -/
theorem toNat_field (w : EventWord) (start len : Nat) :
    (w.extractLsb' start len).toNat = w.toNat / 2 ^ start % 2 ^ len := by
  rw [BitVec.extractLsb'_toNat, Nat.shiftRight_eq_div_pow]

theorem field_eq_zero_iff (w : EventWord) (start len : Nat) :
    w.extractLsb' start len = 0 ↔ w.toNat / 2 ^ start % 2 ^ len = 0 := by
  rw [← BitVec.toNat_inj, toNat_field]; rfl

theorem toNat_opcode (w : EventWord) : (w.extractLsb' 28 4).toNat = w.toNat / 2 ^ 28 := by
  have hw := w.isLt
  rw [toNat_field]
  omega

theorem field_eq_ofBool (w : EventWord) (k : Nat) : w.extractLsb' k 1 = BitVec.ofBool (w.getLsbD k) := by
  rw [BitVec.getLsbD_eq_extractLsb']
  generalize w.extractLsb' k 1 = x
  revert x
  decide

theorem ofBool_eq_bit_iff (b : Bool) (ch : Channel) : BitVec.ofBool b = ch.bit ↔ channelOfBit b = ch := by
  revert b; cases ch <;> decide

/-- A word is the word of an event exactly when it has the event's opcode and operand fields (rule R100). -/
theorem encode_eq_iff (i : Instr) (w : EventWord) :
    encode i = w ↔ w.toNat / 2 ^ 28 = i.opcode.toNat ∧ w.extractLsb' 0 28 = i.operandBits := by
  have hw : w.extractLsb' 28 4 ++ w.extractLsb' 0 28 = w := BitVec.extractLsb'_append_extractLsb'
  rw [← toNat_opcode, BitVec.toNat_inj, ← append_eq_append_iff, hw]
  exact eq_comm

@[simp] theorem opcode_edgeEvent (pol : Bool) (ch : Channel) (ts : Stamp) : (edgeEvent pol ch ts).opcode = 1 := by
  cases pol <;> rfl

theorem operandBits_edgeEvent (pol : Bool) (ch : Channel) (ts : Stamp) :
    (edgeEvent pol ch ts).operandBits = ch.bit ++ BitVec.ofBool pol ++ 0#2 ++ ts := by
  cases pol <;> rfl

@[simp] theorem wellFormed_edgeEvent (K : Config) (pol : Bool) (ch : Channel) (ts : Stamp) :
    (edgeEvent pol ch ts).wellFormed K = decide (ts.toNat < 2 ^ K.timerBits) := by
  cases pol <;> rfl

theorem opcode_eq_one_iff (i : Instr) : i.opcode = 1 ↔ ∃ pol ch ts, i = edgeEvent pol ch ts := by
  refine ⟨fun h => ?_, fun ⟨pol, ch, ts, hi⟩ => hi ▸ opcode_edgeEvent pol ch ts⟩
  cases i
  case edgeRise ch ts => exact ⟨true, ch, ts, rfl⟩
  case edgeFall ch ts => exact ⟨false, ch, ts, rfl⟩
  all_goals exact absurd h (by simp [Instr.opcode])

theorem opcode_eq_two_iff (i : Instr) : i.opcode = 2 ↔ ∃ b, i = .rxByte b := by
  refine ⟨fun h => ?_, fun ⟨b, hi⟩ => hi ▸ rfl⟩
  cases i
  case rxByte b => exact ⟨b, rfl⟩
  all_goals exact absurd h (by simp [Instr.opcode])

/-- No event has a reserved opcode (rule R105). -/
theorem opcode_bounds (i : Instr) : 1 ≤ i.opcode.toNat ∧ i.opcode.toNat ≤ 6 := by
  cases i <;> simp [Instr.opcode]

/-- The operand fields of an edge word, one by one (rule R102). -/
theorem edgeOperands_iff (w : EventWord) (pol : Bool) (ch : Channel) (ts : Stamp) :
    w.extractLsb' 0 28 = (edgeEvent pol ch ts).operandBits ↔
      channelOfBit (w.getLsbD 27) = ch ∧ w.getLsbD 26 = pol ∧ w.extractLsb' 24 2 = 0 ∧ w.extractLsb' 0 24 = ts := by
  have hfields : w.extractLsb' 27 1 ++ w.extractLsb' 26 1 ++ w.extractLsb' 24 2 ++ w.extractLsb' 0 24
      = w.extractLsb' 0 28 := by
    rw [BitVec.extractLsb'_append_extractLsb'_eq_extractLsb' (start₁ := 26) (len₁ := 1) rfl,
      BitVec.extractLsb'_append_extractLsb'_eq_extractLsb' (start₁ := 24) (len₁ := 2) rfl,
      BitVec.extractLsb'_append_extractLsb'_eq_extractLsb' (start₁ := 0) (len₁ := 24) rfl]
  rw [operandBits_edgeEvent, ← hfields, append_eq_append_iff, append_eq_append_iff, append_eq_append_iff,
    field_eq_ofBool, field_eq_ofBool, ofBool_eq_bit_iff, BitVec.ofBool_eq_iff_eq, and_assoc, and_assoc]
  rfl

/-- The operand fields of a byte word (rule R103). -/
theorem byteOperands_iff (w : EventWord) (b : Byte) :
    w.extractLsb' 0 28 = (Instr.rxByte b).operandBits ↔ w.extractLsb' 8 20 = 0 ∧ w.extractLsb' 0 8 = b := by
  have hfields : w.extractLsb' 8 20 ++ w.extractLsb' 0 8 = w.extractLsb' 0 28 :=
    BitVec.extractLsb'_append_extractLsb'_eq_extractLsb' rfl
  rw [← hfields]
  exact append_eq_append_iff

/-! ## The rows of the opcode table

A row's decoder answers an event exactly when the event is of that row and the word has its operand fields. -/

/-- The events without operands (rule R104). -/
def plainEvents : List Instr := [.tick, .wdtClock, .snapshot, .reset]

theorem operandBits_plain : ∀ i ∈ plainEvents, i.operandBits = 0 := by decide

theorem wellFormed_plain (K : Config) : ∀ i ∈ plainEvents, i.wellFormed K = true := by
  simp [plainEvents, Instr.wellFormed]

/-- The events without operands are the ones from opcode 0x3 on. -/
theorem mem_plainEvents_iff (i : Instr) : i ∈ plainEvents ↔ 3 ≤ i.opcode.toNat := by
  cases i <;> simp [plainEvents, Instr.opcode]

theorem eq_of_opcode_eq_plain : ∀ i ∈ plainEvents, ∀ j ∈ plainEvents, i.opcode = j.opcode → i = j := by decide

/-- An event without operands is the only one of its opcode (rule R101). -/
theorem opcode_eq_plain_iff {i j : Instr} (hj : j ∈ plainEvents) : i.opcode = j.opcode ↔ i = j := by
  refine ⟨fun h => ?_, fun h => h ▸ rfl⟩
  have hi : i ∈ plainEvents := by rw [mem_plainEvents_iff, h]; exact (mem_plainEvents_iff j).1 hj
  exact eq_of_opcode_eq_plain i hi j hj h

theorem decodeEdge_eq_ok_iff (w : EventWord) (i : Instr) :
    decodeEdge w = .ok i ↔ i.opcode = 1 ∧ w.extractLsb' 0 28 = i.operandBits := by
  unfold decodeEdge
  constructor
  · intro h
    split at h
    case isTrue hz => cases h; exact ⟨opcode_edgeEvent _ _ _, (edgeOperands_iff w _ _ _).2 ⟨rfl, rfl, hz, rfl⟩⟩
    case isFalse => cases h
  · rintro ⟨hop, h⟩
    obtain ⟨pol, ch, ts, rfl⟩ := (opcode_eq_one_iff i).1 hop
    obtain ⟨hch, hpol, hz, hts⟩ := (edgeOperands_iff w pol ch ts).1 h
    rw [if_pos hz, hch, hpol, hts]

theorem decodeByte_eq_ok_iff (w : EventWord) (i : Instr) :
    decodeByte w = .ok i ↔ i.opcode = 2 ∧ w.extractLsb' 0 28 = i.operandBits := by
  unfold decodeByte
  constructor
  · intro h
    split at h
    case isTrue hz => cases h; exact ⟨rfl, (byteOperands_iff w _).2 ⟨hz, rfl⟩⟩
    case isFalse => cases h
  · rintro ⟨hop, h⟩
    obtain ⟨b, rfl⟩ := (opcode_eq_two_iff i).1 hop
    obtain ⟨hz, hb⟩ := (byteOperands_iff w b).1 h
    rw [if_pos hz, hb]

theorem decodePlain_eq_ok_iff {j : Instr} (hj : j ∈ plainEvents) (w : EventWord) (i : Instr) :
    decodePlain j w = .ok i ↔ i.opcode = j.opcode ∧ w.extractLsb' 0 28 = i.operandBits := by
  rw [opcode_eq_plain_iff hj]
  unfold decodePlain
  constructor
  · intro h
    split at h
    case isTrue hz => cases h; exact ⟨rfl, hz.trans (operandBits_plain j hj).symm⟩
    case isFalse => cases h
  · rintro ⟨rfl, h⟩
    exact if_pos (h.trans (operandBits_plain i hj))

/-- The decoder runs the row of the word's opcode (rules R101, R105). -/
theorem decodeFields_cases (w : EventWord) :
    (w.toNat / 2 ^ 28 = 1 ∧ decodeFields w = decodeEdge w)
    ∨ (w.toNat / 2 ^ 28 = 2 ∧ decodeFields w = decodeByte w)
    ∨ (∃ i ∈ plainEvents, w.toNat / 2 ^ 28 = i.opcode.toNat ∧ decodeFields w = decodePlain i w)
    ∨ ((w.toNat / 2 ^ 28 = 0 ∨ 7 ≤ w.toNat / 2 ^ 28) ∧ decodeFields w = .error .reservedOpcode) := by
  unfold decodeFields
  rw [toNat_opcode]
  split
  case h_1 h => exact .inl ⟨h, rfl⟩
  case h_2 h => exact .inr (.inl ⟨h, rfl⟩)
  case h_3 h => exact .inr (.inr (.inl ⟨.tick, by decide, h, rfl⟩))
  case h_4 h => exact .inr (.inr (.inl ⟨.wdtClock, by decide, h, rfl⟩))
  case h_5 h => exact .inr (.inr (.inl ⟨.snapshot, by decide, h, rfl⟩))
  case h_6 h => exact .inr (.inr (.inl ⟨.reset, by decide, h, rfl⟩))
  case h_7 h₁ h₂ h₃ h₄ h₅ h₆ =>
    exact .inr (.inr (.inr ⟨by simp only [imp_false] at h₁ h₂ h₃ h₄ h₅ h₆; omega, rfl⟩))

/-- The decoder of the fields and the encoder are inverse to each other (rules R100 to R104). -/
theorem decodeFields_eq_ok_iff (w : EventWord) (i : Instr) : decodeFields w = .ok i ↔ encode i = w := by
  rw [encode_eq_iff]
  rcases decodeFields_cases w with ⟨hop, hrow⟩ | ⟨hop, hrow⟩ | ⟨j, hj, hop, hrow⟩ | ⟨hop, hrow⟩ <;> rw [hrow]
  case inl =>
    rw [decodeEdge_eq_ok_iff, hop, ← BitVec.toNat_inj, eq_comm (a := i.opcode.toNat)]; rfl
  case inr.inl =>
    rw [decodeByte_eq_ok_iff, hop, ← BitVec.toNat_inj, eq_comm (a := i.opcode.toNat)]; rfl
  case inr.inr.inl =>
    rw [decodePlain_eq_ok_iff hj, hop, ← BitVec.toNat_inj, eq_comm (a := i.opcode.toNat)]
  case inr.inr.inr =>
    have hi := opcode_bounds i
    exact iff_of_false nofun fun h => by omega

/-! ## The decoder (rules R100 to R107) -/

theorem decode_of_fields_ok {K : Config} {w : EventWord} {i : Instr} (h : decodeFields w = .ok i) :
    decode K w = if i.wellFormed K then .ok i else .error .timestampTooWide := by
  simp only [decode, h]

theorem decode_of_fields_error {K : Config} {w : EventWord} {e : DecodeError} (h : decodeFields w = .error e) :
    decode K w = .error e := by
  simp only [decode, h]

/-- The decoder answers an event exactly to the event's own word, if the event is well formed. -/
theorem decode_eq_ok_iff (K : Config) (w : EventWord) (i : Instr) :
    decode K w = .ok i ↔ encode i = w ∧ i.wellFormed K = true := by
  rw [← decodeFields_eq_ok_iff]
  constructor
  · intro h
    refine ⟨?_, wellFormed_of_decode h⟩
    cases hf : decodeFields w with
    | error e => rw [decode_of_fields_error hf] at h; cases h
    | ok j =>
      rw [decode_of_fields_ok hf] at h
      split at h <;> cases h
      rfl
  · rintro ⟨hf, hwf⟩
    rw [decode_of_fields_ok hf, if_pos hwf]

/-- Settles O55, the direction of `decode_eq_ok_iff` from the event to its word. -/
theorem decodeOfEncode : Obligations.DecodeOfEncode :=
  fun K i hwf => (decode_eq_ok_iff K (encode i) i).2 ⟨rfl, hwf⟩

/-- Settles O56, the direction of `decode_eq_ok_iff` from the word to its event. -/
theorem encodeOfDecode : Obligations.EncodeOfDecode :=
  fun K w i h => (decode_eq_ok_iff K w i).1 h

/-- Settles O57: each word is the word of its event. -/
theorem writtenWordsDecode : Obligations.WrittenWordsDecode := by
  refine ⟨?_, ?_, ?_, ?_, ?_, ?_, ?_, ?_, ?_⟩ <;> exact (decode_eq_ok_iff _ _ _).2 (by decide)

/-! What the decoder refuses, row by row, with the word as a number. -/

theorem decode_edge_refused_iff {K : Config} {w : EventWord} (h : decodeFields w = decodeEdge w) :
    (∃ e, decode K w = .error e) ↔ w.toNat / 2 ^ 24 % 4 ≠ 0 ∨ 2 ^ K.timerBits ≤ w.toNat % 2 ^ 24 := by
  have hts : (w.extractLsb' 0 24).toNat = w.toNat % 2 ^ 24 := by rw [toNat_field, pow_zero, Nat.div_one]
  rw [← hts, ← Nat.not_lt, ← not_and_or]
  unfold decodeEdge at h
  by_cases hz : w.extractLsb' 24 2 = 0
  · rw [if_pos hz] at h
    have hz' := (field_eq_zero_iff w 24 2).1 hz
    rw [decode_of_fields_ok h, wellFormed_edgeEvent]
    split_ifs with hwf
    · exact iff_of_false nofun (not_not.2 ⟨hz', of_decide_eq_true hwf⟩)
    · exact iff_of_true ⟨_, rfl⟩ fun hn => hwf (decide_eq_true hn.2)
  · rw [if_neg hz] at h
    have hz' := mt (field_eq_zero_iff w 24 2).2 hz
    exact iff_of_true ⟨_, decode_of_fields_error h⟩ fun hn => hz' hn.1

theorem decode_byte_refused_iff {K : Config} {w : EventWord} (h : decodeFields w = decodeByte w) :
    (∃ e, decode K w = .error e) ↔ w.toNat / 2 ^ 8 % 2 ^ 20 ≠ 0 := by
  rw [Ne, ← field_eq_zero_iff]
  unfold decodeByte at h
  split at h
  case isTrue hz => exact iff_of_false (by rw [decode_of_fields_ok h]; exact nofun) (not_not.2 hz)
  case isFalse hz => exact iff_of_true ⟨_, decode_of_fields_error h⟩ hz

theorem decode_plain_refused_iff {K : Config} {w : EventWord} {i : Instr} (hi : i ∈ plainEvents)
    (h : decodeFields w = decodePlain i w) : (∃ e, decode K w = .error e) ↔ w.toNat % 2 ^ 28 ≠ 0 := by
  have hoperands : w.extractLsb' 0 28 = 0 ↔ w.toNat % 2 ^ 28 = 0 := by
    rw [field_eq_zero_iff, pow_zero, Nat.div_one]
  rw [Ne, ← hoperands]
  unfold decodePlain at h
  split at h
  case isTrue hz =>
    exact iff_of_false (by rw [decode_of_fields_ok h, if_pos (wellFormed_plain K i hi)]; exact nofun) (not_not.2 hz)
  case isFalse hz => exact iff_of_true ⟨_, decode_of_fields_error h⟩ hz

/-- Settles O54: one row of the opcode table for each word. -/
theorem decoderRefusesExactlyReservedWords : Obligations.DecoderRefusesExactlyReservedWords := by
  intro K w
  unfold refusedWord
  rcases decodeFields_cases w with ⟨hop, hrow⟩ | ⟨hop, hrow⟩ | ⟨i, hi, hop, hrow⟩ | ⟨hop, hrow⟩
  case inl => rw [decode_edge_refused_iff hrow]; omega
  case inr.inl => rw [decode_byte_refused_iff hrow]; omega
  case inr.inr.inl =>
    have hlow := (mem_plainEvents_iff i).1 hi
    have hhigh := (opcode_bounds i).2
    rw [decode_plain_refused_iff hi hrow]
    omega
  case inr.inr.inr => exact iff_of_true ⟨_, decode_of_fields_error hrow⟩ (by omega)

/-- Processing a word that spells no event refuses it (rule R105). -/
theorem processWord_of_refused {s : State} {w : EventWord} {e : DecodeError} (hd : decode s.cfg w = .error e) :
    processWord w s = .next (s.refuseEvent w).retire := by
  rw [processWord_eq, hd]

/-- Settles O53: the decoder refuses the word, so the step refuses it too and goes on. -/
theorem refusedWordOnlySetsTheMark : Obligations.RefusedWordOnlySetsTheMark := by
  intro s w rest hK hready hevents hrefused
  obtain ⟨e, he⟩ := (decoderRefusesExactlyReservedWords s.cfg w).2 hrefused
  rw [step_of_word hK hready hevents, processWord_of_refused (s := { s with events := rest }) he]
  rfl

end Sys2Proof.Machine

/-! The serial frame (30_encoding.md): its bytes, and its checksum as a number. -/

namespace Sys2Proof.Machine

/-! ## Payload bytes and their sum (rule R110) -/

@[simp] theorem payloadBytes_cons (v : Half) (slots : List Half) :
    payloadBytes (v :: slots) = lowByte v :: highByte v :: payloadBytes slots := rfl

@[simp] theorem length_payloadBytes (slots : List Half) : (payloadBytes slots).length = 2 * slots.length := by
  induction slots with
  | nil => rfl
  | cons v slots ih => rw [payloadBytes_cons, List.length_cons, List.length_cons, List.length_cons, ih]; omega

/-- A slot's low and high byte stand side by side. -/
theorem payloadBytes_slot (slots : List Half) (k : Nat) (h : k < slots.length) :
    (payloadBytes slots)[2 * k]? = some (lowByte slots[k])
      ∧ (payloadBytes slots)[2 * k + 1]? = some (highByte slots[k]) := by
  induction slots generalizing k with
  | nil => exact absurd h (Nat.not_lt_zero k)
  | cons v slots ih =>
    cases k with
    | zero => exact ⟨rfl, rfl⟩
    | succ k => exact ih k (Nat.lt_of_succ_lt_succ h)

theorem byteSum_le (bytes : List Byte) : byteSum bytes ≤ 255 * bytes.length := by
  have hbyte : ∀ n ∈ bytes.map BitVec.toNat, n ≤ 255 := by
    intro n hn
    obtain ⟨byte, -, rfl⟩ := List.mem_map.1 hn
    exact Nat.le_of_lt_succ byte.isLt
  calc byteSum bytes ≤ (bytes.map BitVec.toNat).length • 255 := List.sum_le_card_nsmul _ _ hbyte
    _ = 255 * bytes.length := by rw [List.length_map, smul_eq_mul, Nat.mul_comm]

/-! ## The checksum (rule R111) -/

theorem toNat_checksumOf (K : Config) (bytes : List Byte) :
    ((checksumOf K bytes).toNat : Int) = ((K.ckSeed : Int) - (byteSum bytes : Int)) % 65536 := by
  rw [checksumOf, BitVec.toNat_ofInt, Int.toNat_of_nonneg (Int.emod_nonneg _ (by decide))]
  rfl

/-- Settles O29: 28 payload bytes take at most `28 * 255` from the default seed. -/
theorem defaultChecksumNeverSpellsMarker : Obligations.DefaultChecksumNeverSpellsMarker := by
  intro slots hlen
  have hsum := byteSum_le (payloadBytes slots)
  have hck := toNat_checksumOf Config.tc (payloadBytes slots)
  have hseed : Config.tc.ckSeed = 65535 := rfl
  rw [length_payloadBytes, hlen] at hsum
  rw [hseed] at hck
  rw [toNat_highByte]
  omega

/-! ## The frame's bytes (rule R110): the marker, then the payload, then the checksum field -/

theorem length_frameWith (K : Config) (field : Half) (slots : List Half) :
    (frameWith K field slots).length = 2 * slots.length + 4 := by
  simp [frameWith, markerBytes]

theorem take_frameWith (K : Config) (field : Half) (slots : List Half) :
    (frameWith K field slots).take 2 = markerBytes K := rfl

theorem drop_two_frameWith (K : Config) (field : Half) (slots : List Half) :
    (frameWith K field slots).drop 2 = payloadBytes slots ++ [lowByte field, highByte field] := rfl

theorem getElem?_frameWith (K : Config) (field : Half) {slots : List Half} {i : Nat} (h : i < 2 * slots.length) :
    (frameWith K field slots)[i + 2]? = (payloadBytes slots)[i]? := by
  rw [Nat.add_comm, ← List.getElem?_drop, drop_two_frameWith,
    List.getElem?_append_left (by rwa [length_payloadBytes])]

theorem drop_frameWith (K : Config) (field : Half) (slots : List Half) :
    (frameWith K field slots).drop (2 * slots.length + 2) = [lowByte field, highByte field] := by
  rw [Nat.add_comm, ← List.drop_drop, drop_two_frameWith, ← length_payloadBytes, List.drop_left]

/-- Settles O31, from the layout of a frame with any checksum field and the checksum as a number. -/
theorem frameLayout : Obligations.FrameLayout := by
  intro K slots hlen
  rw [← hlen]
  refine ⟨length_frameWith K _ slots, take_frameWith K _ slots, fun k hk => ?slot, _, _, drop_frameWith K _ slots,
    ?checksum⟩
  case slot =>
    obtain ⟨hlow, hhigh⟩ := payloadBytes_slot slots k hk
    exact ⟨(getElem?_frameWith K _ (by omega)).trans hlow, (getElem?_frameWith K _ (by omega)).trans hhigh⟩
  case checksum =>
    rw [← toNat_littleEndian, littleEndian_lowByte_highByte]
    exact toNat_checksumOf K _

end Sys2Proof.Machine

/-! The lines of a test script (30_encoding.md): the words of its `edge` and `pulse` lines, and the two steps of a pulse. -/

namespace Sys2Proof.Machine

/-! ## The words of the script's `edge` lines (rules R102, R114) -/

theorem toNat_append_add {m n : Nat} (x : BitVec m) (y : BitVec n) :
    (x ++ y).toNat = x.toNat * 2 ^ n + y.toNat := by
  rw [BitVec.toNat_append, ← Nat.shiftLeft_add_eq_or_of_lt y.isLt, Nat.shiftLeft_eq]

theorem toNat_encode_edgeEvent (pol : Bool) (ch : Channel) (ts : Stamp) :
    (encode (edgeEvent pol ch ts)).toNat
      = 2 ^ 24 * (16 + 8 * ch.bit.toNat + 4 * (BitVec.ofBool pol).toNat) + ts.toNat := by
  have hop : ((1 : BitVec 4)).toNat = 1 := rfl
  have hreserved : (0#2).toNat = 0 := rfl
  rw [encode, operandBits_edgeEvent, opcode_edgeEvent]
  simp only [toNat_append_add, hop, hreserved]
  omega

/-- A timestamp shares no bit with the fields above it, so their `or` is a sum. -/
theorem toNat_or_stamp {top ts : Nat} (htop : top < 2 ^ 8) (hts : ts < 2 ^ 24) :
    (BitVec.ofNat 32 (2 ^ 24 * top) ||| BitVec.ofNat 32 ts).toNat = 2 ^ 24 * top + ts := by
  rw [BitVec.toNat_or, BitVec.toNat_ofNat, BitVec.toNat_ofNat, Nat.mod_eq_of_lt (by omega),
    Nat.mod_eq_of_lt (by omega), ← Nat.two_pow_add_eq_or_of_lt hts]

theorem toNat_edgeWord (ch : Channel) (pol : Edge) {ts : Nat} (hts : ts < 2 ^ 24) :
    (edgeWord ch pol ts).toNat
      = 2 ^ 24 * (16 + 8 * ch.bit.toNat + 4 * (BitVec.ofBool (decide (pol = .rising))).toNat) + ts := by
  cases ch <;> cases pol
  case ch1.rising => exact toNat_or_stamp (top := 0x14) (by decide) hts
  case ch1.falling => exact toNat_or_stamp (top := 0x10) (by decide) hts
  case ch2.rising => exact toNat_or_stamp (top := 0x1C) (by decide) hts
  case ch2.falling => exact toNat_or_stamp (top := 0x18) (by decide) hts

/-- An `edge` line stands for the word of its event. -/
theorem edgeWord_eq_encode (ch : Channel) (pol : Edge) {ts : Nat} (hts : ts < 2 ^ 24) :
    edgeWord ch pol ts = encode (edgeEvent (decide (pol = .rising)) ch (BitVec.ofNat 24 ts)) := by
  apply BitVec.eq_of_toNat_eq
  rw [toNat_edgeWord ch pol hts, toNat_encode_edgeEvent, BitVec.toNat_ofNat, Nat.mod_eq_of_lt hts]

/-- Every timestamp of an admitted timer fits its field (rules R13, R102). -/
theorem stamp_lt {K : Config} (hK : K.Admitted) {ts : Nat} (hts : ts < 2 ^ K.timerBits) : ts < 2 ^ 24 := by
  obtain ⟨-, -, -, -, ⟨-, hbits⟩, -⟩ := hK
  exact hts.trans_le (Nat.pow_le_pow_right (by decide) hbits)

theorem decode_edgeWord {K : Config} (hK : K.Admitted) (ch : Channel) (pol : Edge) {ts : Nat}
    (hts : ts < 2 ^ K.timerBits) :
    decode K (edgeWord ch pol ts) = .ok (edgeEvent (decide (pol = .rising)) ch (BitVec.ofNat 24 ts)) := by
  have hfield := stamp_lt hK hts
  refine (decode_eq_ok_iff K _ _).2 ⟨(edgeWord_eq_encode ch pol hfield).symm, ?_⟩
  rw [wellFormed_edgeEvent, BitVec.toNat_ofNat, Nat.mod_eq_of_lt hfield]
  exact decide_eq_true hts

/-! ## The two edges of a pulse (rules R115, R143 to R145) -/

theorem edgeRiseEffect_of_selected {ch : Channel} {b : Block} (ts : Stamp) (hen : b.capEnabled = true)
    (hsel : (b.cap ch).edgeSel = .rising) :
    edgeRiseEffect ch ts b = { blk := b.setCap ch { edgeSel := .falling, rise := ts } } := by
  rw [edgeRiseEffect, (captureGate_none_iff ch .rising b).2 ⟨hen, hsel⟩, latchRise, hsel, otherEdge_rising]

theorem edgeFallEffect_blk_of_selected {ch : Channel} {b : Block} (K : Config) (ts : Stamp)
    (hen : b.capEnabled = true) (hsel : (b.cap ch).edgeSel = .falling) :
    (edgeFallEffect K ch ts b).blk = updateCycle K (measurePulse K ch ts b) := by
  rw [edgeFallEffect, (captureGate_none_iff ch .falling b).2 ⟨hen, hsel⟩]

theorem measurePulse_edgeSel (K : Config) (ch : Channel) (ts : Stamp) (b : Block) :
    ((measurePulse K ch ts b).cap ch).edgeSel = otherEdge (b.cap ch).edgeSel := by
  rw [measurePulse, acceptWidth_cap, setCap_cap_same]

/-- A step whose word spells an event runs the event and takes the next index. -/
theorem step_of_decoded {s : State} {w : EventWord} {rest : List EventWord} {i : Instr} (hK : s.cfg.Admitted)
    (hready : s.platformReady = true) (hevents : s.events = w :: rest) (hd : decode s.cfg w = .ok i) :
    step s = .next (State.afterEvent { s with events := rest } (effectOf s.cfg i s.blk)).retire :=
  (step_of_word hK hready hevents).trans (processWord_of_decoded (s := { s with events := rest }) hd)

/-- The timer ticks between the edges of a pulse, modulo the timer's range. -/
theorem timerDelta_pulse {K : Config} (hK : K.Admitted) {t0 : Nat} (len : Nat) (ht0 : t0 < 2 ^ K.timerBits) :
    timerDelta K (BitVec.ofNat 24 t0) (BitVec.ofNat 24 ((t0 + len) % 2 ^ K.timerBits)) = len % 2 ^ K.timerBits := by
  have hfall : (t0 + len) % 2 ^ K.timerBits < 2 ^ K.timerBits := Nat.mod_lt _ (Nat.two_pow_pos _)
  rw [timerDelta, BitVec.toNat_ofNat, BitVec.toNat_ofNat, Nat.mod_eq_of_lt (stamp_lt hK ht0),
    Nat.mod_eq_of_lt (stamp_lt hK hfall), Int.natCast_emod, Int.emod_sub_emod, Nat.cast_add, add_sub_cancel_left,
    ← Int.natCast_emod, Int.toNat_natCast]

theorem timerDelta_lt (K : Config) (rise fall : Stamp) : timerDelta K rise fall < 2 ^ K.timerBits := by
  have hpos : (0 : Int) < ((2 ^ K.timerBits : Nat) : Int) := by exact_mod_cast Nat.two_pow_pos _
  have hlt := Int.emod_lt_of_pos ((fall.toNat : Int) - rise.toNat) hpos
  unfold timerDelta
  omega

/-- With a pre-division factor of 1, the width is the number of timer ticks. -/
theorem toNat_width_of_factor_one {K : Config} (hK : K.Admitted) (hnum : K.capNum = 1) (hden : K.capDen = 1)
    (rise fall : Stamp) : (width K rise fall).toNat = timerDelta K rise fall := by
  obtain ⟨-, -, -, -, -, -, hfit, -⟩ := hK
  rw [hnum, hden, Nat.mul_one, Nat.div_one] at hfit
  have hdelta : timerDelta K rise fall < 2 ^ K.timerBits := timerDelta_lt K rise fall
  rw [width, hnum, hden, Nat.mul_one, Nat.div_one, BitVec.toNat_ofNat, Nat.mod_eq_of_lt (by omega)]

/-- The word of a selected rising edge is a step that latches its timestamp (rule R143). -/
theorem step_risingWord {s : State} {ch : Channel} {ts : Nat} {rest : List EventWord} (hK : s.cfg.Admitted)
    (hready : s.platformReady = true) (hts : ts < 2 ^ s.cfg.timerBits) (hen : s.blk.capEnabled = true)
    (hsel : (s.blk.cap ch).edgeSel = .rising) (hevents : s.events = edgeWord ch .rising ts :: rest) :
    ∃ t, step s = .next t ∧ t.cfg = s.cfg ∧ t.platformReady = true ∧ t.events = rest
      ∧ t.blk = s.blk.setCap ch { edgeSel := .falling, rise := BitVec.ofNat 24 ts } :=
  ⟨_, step_of_decoded hK hready hevents (decode_edgeWord hK ch .rising hts), rfl, hready, rfl,
    congrArg Effect.blk (edgeRiseEffect_of_selected _ hen hsel)⟩

/-- The word of a selected falling edge is a step that measures the pulse and runs an update cycle (rule R144). -/
theorem step_fallingWord {s : State} {ch : Channel} {ts : Nat} {rest : List EventWord} (hK : s.cfg.Admitted)
    (hready : s.platformReady = true) (hts : ts < 2 ^ s.cfg.timerBits) (hen : s.blk.capEnabled = true)
    (hsel : (s.blk.cap ch).edgeSel = .falling) (hevents : s.events = edgeWord ch .falling ts :: rest) :
    ∃ t, step s = .next t ∧ t.events = rest
      ∧ t.blk = updateCycle s.cfg (measurePulse s.cfg ch (BitVec.ofNat 24 ts) s.blk) :=
  ⟨_, step_of_decoded hK hready hevents (decode_edgeWord hK ch .falling hts), rfl,
    edgeFallEffect_blk_of_selected s.cfg _ hen hsel⟩

/-- Settles O6: the first word latches `t0`, and the second measures the ticks since. -/
theorem scriptPulseMeasuresItsWidth : Obligations.ScriptPulseMeasuresItsWidth := by
  intro s ch t0 len rest hK hready hnum hden ht0 hen hsel hevents
  have hfall : (t0 + len) % 2 ^ s.cfg.timerBits < 2 ^ s.cfg.timerBits := Nat.mod_lt _ (Nat.two_pow_pos _)
  obtain ⟨u, hstep₁, hcfg, hready', hevents', hblk⟩ := step_risingWord hK hready ht0 hen hsel hevents
  have hcap : u.blk.cap ch = { edgeSel := .falling, rise := BitVec.ofNat 24 t0 } := by rw [hblk, setCap_cap_same]
  obtain ⟨t, hstep₂, hrest, hblk'⟩ := step_fallingWord (hcfg ▸ hK) hready' (hcfg ▸ hfall)
    (by rw [hblk, setCap_capEnabled, hen]) (by rw [hcap]) hevents'
  refine ⟨t, ?run, hrest, ?raw, ?edgeSel⟩
  case run => rw [run_succ_of_next 1 hstep₁, run_succ_of_next 0 hstep₂]; rfl
  case raw =>
    rw [hblk', updateCycle_chan, measurePulse_chan_same, hcap, hcfg]
    exact (toNat_width_of_factor_one hK hnum hden _ _).trans (timerDelta_pulse hK len ht0)
  case edgeSel => rw [hblk', updateCycle_cap, measurePulse_edgeSel, hcap, otherEdge_falling]

end Sys2Proof.Machine

/-! Pulse capture (40_capture.md): the width a pulse measures, the two gates of an edge event, what an edge on one
channel leaves unchanged, and what each edge event does. -/

namespace Sys2Proof.Machine

/-! ## The width (rule R145) -/

theorem timerDelta_eq (K : Config) (rise fall : Stamp) :
    timerDelta K rise fall = (((fall.toNat : Int) - (rise.toNat : Int)) % 2 ^ K.timerBits).toNat := by
  rw [timerDelta, Nat.cast_pow, Nat.cast_ofNat]

/-- The scaled ticks are at most those of the longest difference, which rule R13 bounds. -/
theorem scaled_timerDelta_lt {K : Config} (hK : K.Admitted) (rise fall : Stamp) :
    timerDelta K rise fall * K.capNum / K.capDen < 2 ^ 16 := by
  obtain ⟨-, -, -, -, -, -, hfit, -⟩ := hK
  have hticks : timerDelta K rise fall ≤ 2 ^ K.timerBits - 1 := Nat.le_pred_of_lt (timerDelta_lt K rise fall)
  calc timerDelta K rise fall * K.capNum / K.capDen
      ≤ (2 ^ K.timerBits - 1) * K.capNum / K.capDen := Nat.div_le_div_right (Nat.mul_le_mul_right _ hticks)
    _ < 2 ^ 16 := Nat.lt_succ_of_le hfit

theorem toNat_width {K : Config} (hK : K.Admitted) (rise fall : Stamp) :
    (width K rise fall).toNat = timerDelta K rise fall * K.capNum / K.capDen := by
  rw [width, BitVec.toNat_ofNat, Nat.mod_eq_of_lt (scaled_timerDelta_lt hK rise fall)]

/-- Settles O5: 16 bits lose nothing of the scaled ticks (`toNat_width`). -/
theorem widthIsScaledModularDifference : Obligations.WidthIsScaledModularDifference := by
  intro K rise fall hK
  rw [toNat_width hK, timerDelta_eq]

/-! ## How an edge event's effect enters the state (rules R17, R331) -/

theorem sameRun_afterEvent (s : State) (e : Effect) : s.sameRun (s.afterEvent e) := ⟨rfl, rfl, rfl, rfl, rfl⟩

/-- An event whose effect returns nothing writes its block state and records the conditions it raises. -/
theorem exec_of_effect {s : State} {i : Instr} {b : Block} {cs : List Condition}
    (he : effectOf s.cfg i s.blk = { blk := b, raised := cs }) :
    exec i s = .next { s with blk := b, trace := s.trace ++ s.raisedNow cs } := by
  rw [exec_eq, he, State.afterEvent, Effect.entries, Option.map_none, Option.toList_none, List.append_nil,
    State.raisedNow]

/-! ## Edges that fail a gate (rules R141, R142) -/

theorem exec_edgeRise_of_gate {s : State} {ch : Channel} {c : Condition} (ts : Stamp)
    (hg : captureGate ch .rising s.blk = some c) :
    exec (.edgeRise ch ts) s = .next { s with trace := s.trace ++ s.raisedNow [c] } :=
  exec_of_effect (by rw [effectOf, edgeRiseEffect, hg])

theorem exec_edgeFall_of_gate {s : State} {ch : Channel} {c : Condition} (ts : Stamp)
    (hg : captureGate ch .falling s.blk = some c) :
    exec (.edgeFall ch ts) s = .next { s with trace := s.trace ++ s.raisedNow [c] } :=
  exec_of_effect (by rw [effectOf, edgeFallEffect, hg])

/-- Settles O3: each clause is an edge that fails one of the two gates. -/
theorem unselectedEdgesAreIgnored : Obligations.UnselectedEdgesAreIgnored := by
  intro s ch ts
  refine ⟨fun hdis => ?disabled, fun hen hsel => ?riseAtFalling, fun hen hsel => ?fallAtRising⟩
  case disabled =>
    exact List.forall_mem_cons.2 ⟨exec_edgeRise_of_gate ts (captureGate_disabled hdis),
      List.forall_mem_singleton.2 (exec_edgeFall_of_gate ts (captureGate_disabled hdis))⟩
  case riseAtFalling => exact exec_edgeRise_of_gate ts (captureGate_unselected hen (by rw [hsel]; decide))
  case fallAtRising => exact exec_edgeFall_of_gate ts (captureGate_unselected hen (by rw [hsel]; decide))

/-! ## What an edge on one channel leaves unchanged (rule R140) -/

/-- `c` has the other channel's record and capture unit, the serial decoder and the capture enable of `b`. -/
structure Block.AgreesBeside (ch : Channel) (b c : Block) : Prop where
  chan : ∀ ch', ch' ≠ ch → c.chan ch' = b.chan ch'
  cap : ∀ ch', ch' ≠ ch → c.cap ch' = b.cap ch'
  ser : c.ser = b.ser
  capEnabled : c.capEnabled = b.capEnabled

theorem agreesBeside_refl (ch : Channel) (b : Block) : b.AgreesBeside ch b :=
  ⟨fun _ _ => rfl, fun _ _ => rfl, rfl, rfl⟩

theorem agreesBeside_setCap (ch : Channel) (b : Block) (x : CaptureUnit) : b.AgreesBeside ch (b.setCap ch x) where
  chan ch' _ := setCap_chan b ch ch' x
  cap ch' h := setCap_cap_other b ch ch' x h
  ser := setCap_ser b ch x
  capEnabled := setCap_capEnabled b ch x

theorem agreesBeside_measurePulse (K : Config) (ch : Channel) (ts : Stamp) (b : Block) :
    b.AgreesBeside ch (measurePulse K ch ts b) where
  chan ch' h := measurePulse_chan_other K ts b h
  cap ch' h := by rw [measurePulse, acceptWidth_cap, setCap_cap_other b ch ch' _ h]
  ser := by rw [measurePulse, acceptWidth_ser, setCap_ser]
  capEnabled := by rw [measurePulse, acceptWidth_capEnabled, setCap_capEnabled]

/-- An update cycle writes the outputs and the supervisor's counts only. -/
theorem agreesBeside_updateCycle {ch : Channel} {b c : Block} (K : Config) (h : b.AgreesBeside ch c) :
    b.AgreesBeside ch (updateCycle K c) where
  chan ch' hne := (updateCycle_chan K c ch').trans (h.chan ch' hne)
  cap ch' hne := (updateCycle_cap K c ch').trans (h.cap ch' hne)
  ser := h.ser
  capEnabled := h.capEnabled

theorem agreesBeside_edgeRise (ch : Channel) (ts : Stamp) (b : Block) :
    b.AgreesBeside ch (edgeRiseEffect ch ts b).blk := by
  rcases edgeRiseEffect_cases ch ts b with ⟨c, he⟩ | he <;> rw [he]
  case inl => exact agreesBeside_refl ch b
  case inr => exact agreesBeside_setCap ch b _

theorem agreesBeside_edgeFall (K : Config) (ch : Channel) (ts : Stamp) (b : Block) :
    b.AgreesBeside ch (edgeFallEffect K ch ts b).blk := by
  rcases edgeFallEffect_cases K ch ts b with ⟨c, he⟩ | he <;> rw [he]
  case inl => exact agreesBeside_refl ch b
  case inr => exact agreesBeside_updateCycle K (agreesBeside_measurePulse K ch ts b)

/-- Settles O4: both edge events agree with the old block beside their channel. -/
theorem edgeOnOneChannelLeavesTheOther : Obligations.EdgeOnOneChannelLeavesTheOther := by
  intro s ch ch' ts hne i hi
  have hedges : ∀ j ∈ [Instr.edgeRise ch ts, Instr.edgeFall ch ts],
      s.blk.AgreesBeside ch (effectOf s.cfg j s.blk).blk :=
    List.forall_mem_cons.2
      ⟨agreesBeside_edgeRise ch ts s.blk, List.forall_mem_singleton.2 (agreesBeside_edgeFall s.cfg ch ts s.blk)⟩
  obtain ⟨hchan, hcap, hser, hen⟩ := hedges i hi
  exact ⟨_, exec_eq i s, sameRun_afterEvent s _, hchan ch' hne, hcap ch' hne, hser, hen⟩

/-! ## Selected edges (rules R143, R144) -/

theorem exec_edgeRise_of_selected {s : State} {ch : Channel} (ts : Stamp) (hen : s.blk.capEnabled = true)
    (hsel : (s.blk.cap ch).edgeSel = .rising) :
    exec (.edgeRise ch ts) s = .next { s with blk := s.blk.setCap ch { edgeSel := .falling, rise := ts } } := by
  have he : effectOf s.cfg (.edgeRise ch ts) s.blk
      = { blk := s.blk.setCap ch { edgeSel := .falling, rise := ts } } := edgeRiseEffect_of_selected ts hen hsel
  rw [exec_of_effect he, State.raisedNow, List.map_nil, List.append_nil]

/-- Settles O1: one case for each answer of the gate (`captureGate_cases`). -/
theorem edgeRiseLatchesSelectedEdge : Obligations.EdgeRiseLatchesSelectedEdge := by
  intro s ch ts
  rcases captureGate_cases ch .rising s.blk with ⟨hdis, hg⟩ | ⟨hen, hsel, hg⟩ | ⟨hen, hsel, -⟩
  case inl =>
    rw [if_pos hdis]
    exact exec_edgeRise_of_gate ts hg
  case inr.inl =>
    have hfall : (s.blk.cap ch).edgeSel = .falling := by
      cases h : (s.blk.cap ch).edgeSel
      · exact absurd h hsel
      · rfl
    rw [if_neg (by rw [hen]; decide), if_pos hfall]
    exact exec_edgeRise_of_gate ts hg
  case inr.inr =>
    rw [if_neg (by rw [hen]; decide), if_neg (by rw [hsel]; decide), exec_edgeRise_of_selected ts hen hsel]
    cases ch <;> rfl

theorem exec_edgeFall_of_selected {s : State} {ch : Channel} (ts : Stamp) (hen : s.blk.capEnabled = true)
    (hsel : (s.blk.cap ch).edgeSel = .falling) :
    exec (.edgeFall ch ts) s = .next
      { s with blk := updateCycle s.cfg (measurePulse s.cfg ch ts s.blk)
               trace := s.trace
                ++ s.raisedNow (acceptRaises s.cfg ch (width s.cfg (s.blk.cap ch).rise ts) s.blk) } :=
  exec_of_effect (by rw [effectOf, edgeFallEffect, (captureGate_none_iff ch .falling s.blk).2 ⟨hen, hsel⟩])

theorem measurePulse_rise (K : Config) (ch : Channel) (ts : Stamp) (b : Block) :
    ((measurePulse K ch ts b).cap ch).rise = (b.cap ch).rise := by
  rw [measurePulse, acceptWidth_cap, setCap_cap_same]

/-- The value the validator answers fits the channel's 16 bits (rule R215). -/
theorem toInt_acceptedInput_value {K : Config} (hK : K.Admitted) (w : Half) (armed : Bool) :
    (acceptedInput K w armed).value.toInt = (validate K w armed).value := by
  rw [acceptedInput]
  rcases validate_cases K w armed with ⟨-, hv⟩ | ⟨-, -, -, -, hv⟩ | ⟨hlo, hhi, -, hv⟩ <;> rw [hv]
  · rfl
  · rfl
  · exact toInt_ofInt_sub_center hK hlo hhi

/-- Settles O2: the next state is the update cycle of the measured pulse (`exec_edgeFall_of_selected`); the channel
holds the validated width, and everything beside it is kept. -/
theorem edgeFallMeasuresValidatesAndDrives : Obligations.EdgeFallMeasuresValidatesAndDrives := by
  intro s ch ts hK hen hsel
  have hchan := (updateCycle_chan s.cfg _ ch).trans (measurePulse_chan_same s.cfg ch ts s.blk)
  have hcap := updateCycle_cap s.cfg (measurePulse s.cfg ch ts s.blk) ch
  have hbeside := agreesBeside_updateCycle s.cfg (agreesBeside_measurePulse s.cfg ch ts s.blk)
  refine ⟨_, width s.cfg (s.blk.cap ch).rise ts, exec_edgeFall_of_selected ts hen hsel, ⟨rfl, rfl, rfl, rfl, rfl⟩,
    ?width, ?raw, ?value, ?armed, ?edgeSel, ?rise, fun ch' hne => ⟨hbeside.chan ch' hne, hbeside.cap ch' hne⟩,
    hbeside.capEnabled.trans hen, hbeside.ser, ?latch, ?wdt, ?armedCount, ?trace⟩
  case width => exact widthIsScaledModularDifference s.cfg _ ts hK
  case raw => rw [hchan, acceptedInput]
  case value => rw [hchan, toInt_acceptedInput_value hK]
  case armed => rw [hchan, acceptedInput]
  case edgeSel => rw [hcap, measurePulse_edgeSel, hsel, otherEdge_falling]
  case rise => rw [hcap, measurePulse_rise]
  case latch => exact updateCycle_latch s.cfg _
  case wdt => exact updateCycle_wdt s.cfg _
  case armedCount => exact updateCycle_armedCount s.cfg _
  case trace => rfl

end Sys2Proof.Machine

/-! The serial frame decoder (41_serial.md): what one received byte does, what a sequence of received bytes does, and
the outcome of a whole frame. -/

namespace Sys2Proof.Machine

/-! ## One received byte (rules R170 to R175) -/

theorem littleEndian_eq_iff (first second : Byte) (v : Half) :
    littleEndian first second = v ↔ first.toNat + 256 * second.toNat = v.toNat := by
  rw [← BitVec.toNat_inj, toNat_littleEndian]

theorem littleEndian_eq_ofNat (first second : Byte) :
    littleEndian first second = BitVec.ofNat 16 (first.toNat + 256 * second.toNat) := by
  rw [← toNat_littleEndian, BitVec.ofNat_toNat, BitVec.setWidth_eq]

/-- Inside a frame of an admitted configuration the position does not wrap. -/
theorem toNat_pos_succ_of_lt {pos : Byte} (h : pos.toNat + 1 < 256) : (pos + 1).toNat = pos.toNat + 1 := by
  rw [toNat_pos_succ, Nat.mod_eq_of_lt h]

/-- The last byte of the checksum field has a position that a byte holds (rule R13). -/
theorem frameEnd_lt {K : Config} (hK : K.Admitted) : 2 * (K.nSlots + 1) < 256 := by
  obtain ⟨hn, -⟩ := admitted_slots hK
  omega

/-- A frame has ended: the decoder searches, and the position stays at the frame's end (rule R175). -/
def SerialFrameState.endFrame (K : Config) (byte : Byte) (x : SerialFrameState) : SerialFrameState :=
  { x with mode := .search, pos := BitVec.ofNat 8 (2 * (K.nSlots + 1)), prev := byte }

@[simp] theorem endFrame_stage (K : Config) (byte : Byte) (x : SerialFrameState) (ch : Channel) :
    (x.endFrame K byte).stage ch = x.stage ch := by
  cases ch <;> rfl

theorem setSer_endFrame {K : Config} {b : Block} (byte : Byte) (hpos : b.ser.pos.toNat + 1 = 2 * (K.nSlots + 1)) :
    b.setSer { (movePosition b).ser with mode := .search, prev := byte } = b.setSer (b.ser.endFrame K byte) := by
  have hend : b.ser.pos + 1 = BitVec.ofNat 8 (2 * (K.nSlots + 1)) := by
    rw [← hpos, BitVec.ofNat_add, BitVec.ofNat_toNat, BitVec.setWidth_eq]
    rfl
  rw [SerialFrameState.endFrame, ← hend]
  rfl

theorem rxByteEffect_of_marker {K : Config} {b : Block} {byte : Byte}
    (hm : b.ser.prev.toNat = K.sync0 ∧ byte.toNat = K.sync1) : rxByteEffect K byte b = markerStep K byte b :=
  if_pos ((completesMarker_iff K b.ser byte).2 hm)

section NoMarker

variable {K : Config} {b : Block} {byte : Byte} (hm : ¬ (b.ser.prev.toNat = K.sync0 ∧ byte.toNat = K.sync1))
include hm

theorem rxByteEffect_of_search (hmode : b.ser.mode = .search) : rxByteEffect K byte b = searchStep byte b := by
  rw [rxByteEffect, if_neg (mt (completesMarker_iff K b.ser byte).1 hm), hmode]

theorem rxByteEffect_of_extract (hmode : b.ser.mode = .extract) : rxByteEffect K byte b = extractStep K byte b := by
  rw [rxByteEffect, if_neg (mt (completesMarker_iff K b.ser byte).1 hm), hmode]

theorem rxByteEffect_firstByte (hmode : b.ser.mode = .extract) (heven : b.ser.pos.toNat % 2 = 0) :
    rxByteEffect K byte b = firstByteStep byte (movePosition b) := by
  have hodd : (b.ser.pos + 1).toNat % 2 = 1 := by
    rw [toNat_pos_succ]
    omega
  exact (rxByteEffect_of_extract hm hmode).trans (if_pos hodd)

theorem rxByteEffect_slot (hK : K.Admitted) (hmode : b.ser.mode = .extract) {k : Nat}
    (hpos : b.ser.pos.toNat + 1 = 2 * k) (hk : k ≤ K.nSlots) :
    rxByteEffect K byte b = slotStep K k (littleEndian b.ser.prev byte) byte (movePosition b) := by
  have hend := frameEnd_lt hK
  have hsucc := toNat_pos_succ_of_lt (pos := b.ser.pos) (by omega)
  rw [rxByteEffect_of_extract hm hmode]
  rcases extractStep_cases K byte b with ⟨hodd, -⟩ | ⟨-, -, he⟩ | ⟨-, hlt, -⟩
  case inl => omega
  case inr.inl => rw [he, hsucc, hpos, Nat.mul_div_cancel_left k (by decide)]
  case inr.inr => omega

theorem rxByteEffect_checksum (hK : K.Admitted) (hmode : b.ser.mode = .extract)
    (hpos : b.ser.pos.toNat + 1 = 2 * (K.nSlots + 1)) :
    rxByteEffect K byte b = checksumStep K (littleEndian b.ser.prev byte) byte (movePosition b) := by
  have hsucc := toNat_pos_succ_of_lt (pos := b.ser.pos) (by have := frameEnd_lt hK; omega)
  rw [rxByteEffect_of_extract hm hmode]
  rcases extractStep_cases K byte b with ⟨hodd, -⟩ | ⟨-, hle, -⟩ | ⟨-, -, he⟩
  case inl => omega
  case inr.inl => omega
  case inr.inr => exact he

theorem rxByteEffect_wrongChecksum (hK : K.Admitted) (hmode : b.ser.mode = .extract)
    (hpos : b.ser.pos.toNat + 1 = 2 * (K.nSlots + 1)) (hne : littleEndian b.ser.prev byte ≠ b.ser.acc) :
    rxByteEffect K byte b =
      { blk := b.setSer (b.ser.endFrame K byte)
        raised := [.checksumMismatch (littleEndian b.ser.prev byte) b.ser.acc] } := by
  rw [rxByteEffect_checksum hm hK hmode hpos, checksumStep_mismatch (b := movePosition b) hne, movePosition_setSer,
    setSer_endFrame byte hpos, movePosition_acc]

theorem rxByteEffect_rightChecksum (hK : K.Admitted) (hmode : b.ser.mode = .extract)
    (hpos : b.ser.pos.toNat + 1 = 2 * (K.nSlots + 1)) (heq : littleEndian b.ser.prev byte = b.ser.acc) :
    rxByteEffect K byte b =
      { blk := handover (updateCycle K (commitFrame K (b.setSer (b.ser.endFrame K byte))))
        raised := commitRaises K (b.setSer (b.ser.endFrame K byte)) } := by
  rw [rxByteEffect_checksum hm hK hmode hpos, checksumStep_match (b := movePosition b) heq, movePosition_setSer,
    setSer_endFrame byte hpos]

end NoMarker

/-! ## What a byte writes outside the decoder (rules R170, R177, R179, R183) -/

/-- A byte writes the serial frame state alone, with itself in the window, unless it ends a valid frame, which is
committed, driven and handed over. -/
theorem rxByteEffect_blk_cases (K : Config) (byte : Byte) (b : Block) :
    ∃ x : SerialFrameState, x.prev = byte
      ∧ ((¬ completesFrame K b byte ∧ (rxByteEffect K byte b).blk = b.setSer x)
        ∨ (completesFrame K b byte
          ∧ (rxByteEffect K byte b).blk = handover (updateCycle K (commitFrame K (b.setSer x))))) := by
  rcases rxByteEffect_cases K byte b with ⟨hm, he⟩ | ⟨hm, hmode, he⟩ | ⟨hm, hmode, he⟩ <;> rw [he]
  case inl => exact ⟨_, rfl, .inl ⟨fun h => h.1 hm, rfl⟩⟩
  case inr.inl =>
    refine ⟨{ b.ser with prev := byte }, rfl, .inl ⟨?_, rfl⟩⟩
    rintro ⟨-, hextract, -⟩
    exact absurd (hmode.symm.trans hextract) (by decide)
  case inr.inr =>
    rcases extractStep_cases K byte b with ⟨hodd, he⟩ | ⟨-, hle, he⟩ | ⟨heven, hlt, he⟩ <;> rw [he]
    case inl =>
      refine ⟨_, rfl, .inl ⟨?_, rfl⟩⟩
      rintro ⟨-, -, heven, -⟩
      omega
    case inr.inl =>
      refine ⟨_, rfl, .inl ⟨?_, rfl⟩⟩
      rintro ⟨-, -, -, hlt, -⟩
      omega
    case inr.inr =>
      refine ⟨{ (movePosition b).ser with mode := .search, prev := byte }, rfl, ?_⟩
      by_cases hv : littleEndian b.ser.prev byte = b.ser.acc
      · refine .inr ⟨⟨hm, hmode, heven, hlt, (littleEndian_eq_iff _ _ _).1 hv⟩, ?_⟩
        rw [checksumStep_match (b := movePosition b) hv, movePosition_setSer]
      · refine .inl ⟨?_, by rw [checksumStep_mismatch (b := movePosition b) hv, movePosition_setSer]⟩
        rintro ⟨-, -, -, -, hfield⟩
        exact hv ((littleEndian_eq_iff _ _ _).2 hfield)

theorem rxByteEffect_blk_of_not_completesFrame {K : Config} {byte : Byte} {b : Block}
    (h : ¬ completesFrame K b byte) :
    ∃ x : SerialFrameState, x.prev = byte ∧ (rxByteEffect K byte b).blk = b.setSer x := by
  obtain ⟨x, hprev, ⟨-, he⟩ | ⟨hc, -⟩⟩ := rxByteEffect_blk_cases K byte b
  · exact ⟨x, hprev, he⟩
  · exact absurd hc h

theorem sameOutsideSerial_setSer (b : Block) (x : SerialFrameState) : (b.setSer x).sameOutsideSerial b := rfl

@[simp] theorem commitFrame_ser (K : Config) (b : Block) : (commitFrame K b).ser = b.ser := by
  rw [commitFrame, acceptWidth_ser, acceptWidth_ser]

@[simp] theorem commitFrame_cap (K : Config) (b : Block) (ch : Channel) : (commitFrame K b).cap ch = b.cap ch := by
  rw [commitFrame, acceptWidth_cap, acceptWidth_cap]

/-- Settles O25, from the two blocks a byte can leave (`rxByteEffect_blk_cases`). -/
theorem onlyAValidFrameLeavesTheDecoder : Obligations.OnlyAValidFrameLeavesTheDecoder := by
  intro s byte
  refine ⟨_, exec_eq _ s, sameRun_afterEvent s _, ?_⟩
  rw [afterEvent_blk, effectOf]
  obtain ⟨x, hprev, ⟨-, he⟩ | ⟨hc, he⟩⟩ := rxByteEffect_blk_cases s.cfg byte s.blk <;> rw [he]
  case inl => exact ⟨hprev, fun _ => sameOutsideSerial_setSer s.blk x⟩
  case inr =>
    refine ⟨?_, fun hnc => absurd hc hnc⟩
    rw [handover_ser, updateCycle_ser, commitFrame_ser, setSer_ser, hprev]

/-- An event keeps the capture enable, unless it resets the block or is a byte that ends a valid frame. -/
theorem effectOf_capEnabled_cases (K : Config) (i : Instr) (b : Block) :
    (effectOf K i b).blk.capEnabled = b.capEnabled
    ∨ (resetsBlock K i b ∧ (effectOf K i b).blk.capEnabled = true)
    ∨ ((∃ byte, i = .rxByte byte ∧ completesFrame K b byte) ∧ (effectOf K i b).blk.capEnabled = false) := by
  cases i with
  | edgeRise ch ts => exact .inl (agreesBeside_edgeRise ch ts b).capEnabled
  | edgeFall ch ts => exact .inl (agreesBeside_edgeFall K ch ts b).capEnabled
  | rxByte byte =>
    obtain ⟨x, -, ⟨-, he⟩ | ⟨hc, he⟩⟩ := rxByteEffect_blk_cases K byte b <;> rw [effectOf, he]
    · exact .inl (setSer_capEnabled b x)
    · exact .inr (.inr ⟨⟨byte, rfl, hc⟩, handover_capEnabled _⟩)
  | tick => exact .inl rfl
  | wdtClock =>
    rcases wdtClockEffect_cases K b with ⟨hlim, he⟩ | ⟨-, he⟩ <;> rw [effectOf, he]
    · exact .inr (.inl ⟨hlim, rfl⟩)
    · exact .inl rfl
  | snapshot => exact .inl rfl
  | reset => exact .inr (.inl ⟨trivial, rfl⟩)

/-- Settles O40, from the three ways an event treats the enable (`effectOf_capEnabled_cases`). -/
theorem handoverIsOneWay : Obligations.HandoverIsOneWay := by
  intro i s t h
  rw [(exec_next_iff i s t).1 h, afterEvent_blk]
  rcases effectOf_capEnabled_cases s.cfg i s.blk with he | ⟨hreset, he⟩ | ⟨hframe, he⟩ <;> rw [he]
  case inl =>
    exact ⟨fun hdis hen => absurd (hdis.symm.trans hen) (by decide),
      fun hen hdis => absurd (hdis.symm.trans hen) (by decide)⟩
  case inr.inl => exact ⟨fun _ _ => hreset, nofun⟩
  case inr.inr => exact ⟨nofun, fun _ _ => hframe⟩

/-! ## The steps of `RX_BYTE` as events -/

/-- An event that raises and returns nothing writes its block state only. -/
theorem exec_of_quiet_effect {s : State} {i : Instr} {b : Block} (he : effectOf s.cfg i s.blk = { blk := b }) :
    exec i s = .next { s with blk := b } := by
  rw [exec_of_effect he, State.raisedNow, List.map_nil, List.append_nil]

/-- Settles O19: the effect of `markerStep`, with the condition by the old mode. -/
theorem markerResynchronizes : Obligations.MarkerResynchronizes := by
  intro s byte hfirst hsecond
  have he : effectOf s.cfg (.rxByte byte) s.blk = markerStep s.cfg byte s.blk :=
    rxByteEffect_of_marker ⟨hfirst, hsecond⟩
  rw [markerStep] at he
  rw [exec_of_effect he]
  cases s.blk.ser.mode <;> rfl

/-- Settles O20: the effect of `searchStep`. -/
theorem searchOnlyMovesTheWindow : Obligations.SearchOnlyMovesTheWindow := by
  intro s byte hmode hm
  exact exec_of_effect (rxByteEffect_of_search hm hmode)

/-- Settles O21: the effect of `firstByteStep` after the position has moved. -/
theorem firstByteOfPairIsStored : Obligations.FirstByteOfPairIsStored := by
  intro s byte hmode hm heven
  exact exec_of_quiet_effect (rxByteEffect_firstByte hm hmode heven)

/-- Both bytes of a pair leave the accumulator, modulo `2^16` (rule R174). -/
theorem toNat_sub_bytes (acc : Half) (first second : Byte) :
    ((acc - first.setWidth 16 - second.setWidth 16).toNat : Int)
      = ((acc.toNat : Int) - first.toNat - second.toNat) % 65536 := by
  have hfirst := first.isLt
  have hsecond := second.isLt
  have hacc := acc.isLt
  rw [BitVec.toNat_sub, BitVec.toNat_sub, BitVec.toNat_setWidth_of_le (by decide),
    BitVec.toNat_setWidth_of_le (by decide)]
  omega

/-- Settles O22: the effect of `slotStep` after the position has moved. -/
theorem slotUpdatesAccumulatorAndStage : Obligations.SlotUpdatesAccumulatorAndStage := by
  intro s byte k hK hmode hm hpos _ hk
  have hexec := exec_of_quiet_effect (s := s) (i := .rxByte byte) (rxByteEffect_slot hm hK hmode hpos hk)
  refine ⟨_, littleEndian s.blk.ser.prev byte, hexec, ⟨rfl, rfl, rfl, rfl, rfl⟩, rfl, toNat_littleEndian _ _,
    sameOutsideSerial_setSer s.blk _, toNat_sub_bytes _ _ _, rfl, rfl, rfl, hmode, ?_⟩
  exact (toNat_pos_succ_of_lt (by have := frameEnd_lt hK; omega)).trans hpos

/-- Settles O23: the effect of a frame's end with a wrong field. -/
theorem wrongChecksumDiscardsFrame : Obligations.WrongChecksumDiscardsFrame := by
  intro s byte hK hmode hm hpos hne
  rw [← littleEndian_eq_ofNat]
  exact exec_of_effect (rxByteEffect_wrongChecksum hm hK hmode hpos (mt (littleEndian_eq_iff _ _ _).1 hne))

/-- A committed frame leaves in each channel its staged width, validated (rule R176). -/
theorem handover_commitFrame_chan (K : Config) (b : Block) (ch : Channel) :
    (handover (updateCycle K (commitFrame K b))).chan ch = acceptedInput K (b.ser.stage ch) (b.chan ch).armed := by
  rw [handover_chan, updateCycle_chan, commitFrame_chan]

/-- The write of channel 1's width does not change what the validator says of channel 2's (rules R176, R338). -/
theorem commitRaises_eq (K : Config) (b : Block) :
    commitRaises K b =
      (validate K b.ser.stage1 b.chan1.armed).raised ++ (validate K b.ser.stage2 b.chan2.armed).raised := by
  rw [commitRaises, acceptRaises, acceptRaises, acceptWidth_chan_other K .ch1 .ch2 _ _ (by decide)]
  rfl

/-- Settles O24: the effect of a frame's end with the right field. -/
theorem rightChecksumCommitsFrame : Obligations.RightChecksumCommitsFrame := by
  intro s byte hK hmode hm hpos heq
  have hexec := exec_of_effect (s := s) (i := .rxByte byte)
    (rxByteEffect_rightChecksum hm hK hmode hpos ((littleEndian_eq_iff _ _ _).2 heq))
  refine ⟨_, hexec, ⟨rfl, rfl, rfl, rfl, rfl⟩, fun ch => ?chan, rfl, rfl, rfl, rfl, rfl, ?trace⟩
  case chan =>
    dsimp only
    rw [handover_commitFrame_chan, setSer_ser, setSer_chan, endFrame_stage, toInt_acceptedInput_value hK]
    refine ⟨rfl, rfl, rfl, ?_⟩
    rw [handover_cap, updateCycle_cap, commitFrame_cap, setSer_cap]
  case trace =>
    dsimp only
    rw [commitRaises_eq, State.raisedNow, List.map_append, ← List.append_assoc]
    rfl

/-! ## One flipped bit (rules R111, R179) -/

theorem byteSum_append (xs ys : List Byte) : byteSum (xs ++ ys) = byteSum xs + byteSum ys := by
  rw [byteSum, List.map_append, List.sum_append]
  rfl

/-- Equal checksums come from sums that are equal modulo `2^16`. -/
theorem byteSum_congr_of_checksumOf_eq {K : Config} {xs ys : List Byte} (h : checksumOf K xs = checksumOf K ys) :
    byteSum xs % 65536 = byteSum ys % 65536 := by
  have hx := toNat_checksumOf K xs
  have hy := toNat_checksumOf K ys
  rw [h] at hx
  omega

/-- The checksum determines each byte of a payload, given the others. -/
theorem byte_eq_of_checksumOf_eq {K : Config} {before after : List Byte} {x y : Byte}
    (h : checksumOf K (before ++ [x] ++ after) = checksumOf K (before ++ [y] ++ after)) : x = y := by
  have hx := x.isLt
  have hy := y.isLt
  have hsum := byteSum_congr_of_checksumOf_eq h
  have hsingle : ∀ z : Byte, byteSum [z] = z.toNat := fun z => by simp [byteSum]
  rw [byteSum_append, byteSum_append, byteSum_append, byteSum_append, hsingle, hsingle] at hsum
  apply BitVec.eq_of_toNat_eq
  omega

/-- Settles O28: a checksum determines each payload byte, and the flipped byte is another one. -/
theorem oneFlippedBitChangesTheChecksum : Obligations.OneFlippedBitChangesTheChecksum := by
  intro K before after byte j hj h
  have hflip : byte ^^^ (1#8 <<< j) = byte := byte_eq_of_checksumOf_eq h
  have hbit := congrArg (BitVec.getLsbD · j) hflip
  simp [hj] at hbit

end Sys2Proof.Machine

/-! A whole serial frame (41_serial.md): the run of its bytes' words, bytes that are too few to end a frame, and the
frame that ends with the right or a wrong checksum field. -/

namespace Sys2Proof.Machine

/-! ## The run of received bytes (rules R103, R170, R331) -/

/-- The block after these bytes, received in order. -/
def receive (K : Config) (b : Block) (bytes : List Byte) : Block :=
  bytes.foldl (fun c byte => (rxByteEffect K byte c).blk) b

/-- What these bytes, received in order from event index `n` on, add to the trace. -/
def receiveEntries (K : Config) : Nat → Block → List Byte → List TraceEntry
  | _, _, [] => []
  | n, b, byte :: rest =>
    (rxByteEffect K byte b).entries n ++ receiveEntries K (n + 1) (rxByteEffect K byte b).blk rest

@[simp] theorem receive_nil (K : Config) (b : Block) : receive K b [] = b := rfl

@[simp] theorem receive_cons (K : Config) (b : Block) (byte : Byte) (rest : List Byte) :
    receive K b (byte :: rest) = receive K (rxByteEffect K byte b).blk rest := rfl

theorem receive_append (K : Config) (b : Block) (xs ys : List Byte) :
    receive K b (xs ++ ys) = receive K (receive K b xs) ys := List.foldl_append

theorem receiveEntries_append (K : Config) (n : Nat) (b : Block) (xs ys : List Byte) :
    receiveEntries K n b (xs ++ ys)
      = receiveEntries K n b xs ++ receiveEntries K (n + xs.length) (receive K b xs) ys := by
  induction xs generalizing n b with
  | nil => rfl
  | cons x xs ih =>
    rw [List.cons_append, receiveEntries, receiveEntries, ih, List.append_assoc, List.length_cons, receive_cons,
      Nat.add_right_comm, Nat.add_assoc]

/-- The word of an `rx` line is the word of its event (rules R103, R114). -/
theorem rxWord_eq_encode (byte : Byte) : rxWord byte.toNat = encode (.rxByte byte) := by
  have hbyte := byte.isLt
  have hword : (rxWord byte.toNat).toNat = 2 ^ 8 * 2 ^ 21 + byte.toNat := by
    have hbits : (BitVec.ofNat 32 byte.toNat).toNat = byte.toNat := by
      rw [BitVec.toNat_ofNat, Nat.mod_eq_of_lt (by omega)]
    rw [rxWord, BitVec.toNat_or, hbits, Nat.two_pow_add_eq_or_of_lt hbyte]
    rfl
  have hop : (Instr.rxByte byte).opcode.toNat = 2 := rfl
  have hreserved : (0#20).toNat = 0 := rfl
  apply BitVec.eq_of_toNat_eq
  rw [hword, encode, toNat_append_add, hop, Instr.operandBits, toNat_append_add, hreserved]
  omega

theorem decode_rxWord (K : Config) (byte : Byte) : decode K (rxWord byte.toNat) = .ok (.rxByte byte) :=
  (decode_eq_ok_iff K _ _).2 ⟨(rxWord_eq_encode byte).symm, rfl⟩

/-- The word of a received byte is a step that runs the byte and takes the next index. -/
theorem step_rxWord {s : State} {byte : Byte} {rest : List EventWord} (hK : s.cfg.Admitted)
    (hready : s.platformReady = true) (hevents : s.events = rxWord byte.toNat :: rest) :
    step s = .next
      { s with
        blk := (rxByteEffect s.cfg byte s.blk).blk
        events := rest
        eventIndex := s.eventIndex + 1
        trace := s.trace ++ (rxByteEffect s.cfg byte s.blk).entries s.eventIndex } :=
  step_of_decoded hK hready hevents (decode_rxWord s.cfg byte)

/-- The words of received bytes are as many steps, each of which runs its byte. -/
theorem run_byteWords {s : State} {rest : List EventWord} (bytes : List Byte) (hK : s.cfg.Admitted)
    (hready : s.platformReady = true) (hevents : s.events = byteWords bytes ++ rest) :
    Host.Core.run Sys2Proof.core bytes.length s = .next
      { s with
        blk := receive s.cfg s.blk bytes
        events := rest
        eventIndex := s.eventIndex + bytes.length
        trace := s.trace ++ receiveEntries s.cfg s.eventIndex s.blk bytes } := by
  induction bytes generalizing s with
  | nil =>
    have hrest : s.events = rest := hevents
    subst hrest
    rw [receiveEntries, List.append_nil]
    rfl
  | cons byte bytes ih =>
    have hstep := step_rxWord hK hready (rest := byteWords bytes ++ rest) hevents
    refine (run_succ_of_next _ hstep).trans (Eq.trans (ih ?admitted ?ready rfl) ?entries)
    case admitted => exact hK
    case ready => exact hready
    case entries =>
      simp only [receive_cons, receiveEntries, List.length_cons, List.append_assoc, Nat.add_assoc, Nat.add_comm 1]

/-! ## Bytes that end no frame

A frame needs the bytes of its payload and its checksum field after its marker. With fewer of them left, or with a
marker among just enough, the decoder does not reach a frame's end (rules R171, R173, R180). -/

theorem hasMarker_cons_iff (K : Config) (prev byte : Byte) (rest : List Byte) :
    hasMarker K prev (byte :: rest) = true
      ↔ (prev.toNat = K.sync0 ∧ byte.toNat = K.sync1) ∨ hasMarker K byte rest = true := by
  simp [hasMarker]

theorem hasMarker_cons_eq_false_iff (K : Config) (prev byte : Byte) (rest : List Byte) :
    hasMarker K prev (byte :: rest) = false
      ↔ ¬ (prev.toNat = K.sync0 ∧ byte.toNat = K.sync1) ∧ hasMarker K byte rest = false := by
  rw [← Bool.not_eq_true, hasMarker_cons_iff, not_or, Bool.not_eq_true]

/-- The bytes received since the marker of the frame in progress; none while the decoder searches (rule R41). -/
def SerialFrameState.received (x : SerialFrameState) : Nat :=
  match x.mode with
  | .search => 0
  | .extract => x.pos.toNat

theorem received_of_search {x : SerialFrameState} (h : x.mode = .search) : x.received = 0 := by
  rw [SerialFrameState.received, h]

theorem received_of_extract {x : SerialFrameState} (h : x.mode = .extract) : x.received = x.pos.toNat := by
  rw [SerialFrameState.received, h]

/-- The frame ends whatever its checksum field (rule R175). -/
theorem checksumStep_mode (K : Config) (v : Half) (byte : Byte) (b : Block) :
    (checksumStep K v byte b).blk.ser.mode = .search := by
  by_cases hv : v = b.ser.acc
  · rw [checksumStep_match hv, handover_ser, updateCycle_ser, commitFrame_ser, setSer_ser]
  · rw [checksumStep_mismatch hv, setSer_ser]

/-- A marker starts the count again, and no other byte counts on by more than 1. -/
theorem received_rxByteEffect_le (K : Config) (byte : Byte) (b : Block) :
    (rxByteEffect K byte b).blk.ser.received ≤ b.ser.received + 1 := by
  have hsucc : (b.ser.pos + 1).toNat ≤ b.ser.pos.toNat + 1 := by rw [toNat_pos_succ]; exact Nat.mod_le _ _
  rcases rxByteEffect_cases K byte b with ⟨-, he⟩ | ⟨-, hmode, he⟩ | ⟨-, hmode, he⟩ <;> rw [he]
  case inl => exact Nat.zero_le _
  case inr.inl => rw [received_of_search (x := (searchStep byte b).blk.ser) hmode]; exact Nat.zero_le _
  case inr.inr =>
    rw [received_of_extract hmode]
    rcases extractStep_cases K byte b with ⟨-, he⟩ | ⟨-, -, he⟩ | ⟨-, -, he⟩ <;> rw [he]
    case inl => rwa [received_of_extract (by exact hmode)]
    case inr.inl => rwa [received_of_extract (by exact hmode)]
    case inr.inr =>
      rw [received_of_search (checksumStep_mode K _ byte _)]
      exact Nat.zero_le _

/-- A byte before a frame's last one writes the serial frame state alone. -/
theorem rxByteEffect_before_frameEnd {K : Config} {b : Block} (byte : Byte)
    (h : b.ser.received + 1 < 2 * (K.nSlots + 1)) :
    ∃ x : SerialFrameState, (rxByteEffect K byte b).blk = b.setSer x ∧ x.prev = byte
      ∧ x.received ≤ b.ser.received + 1 := by
  have hopen : ¬ completesFrame K b byte := by
    rintro ⟨-, hmode, -, hlt, -⟩
    rw [received_of_extract hmode] at h
    rw [toNat_pos_succ] at hlt
    omega
  obtain ⟨x, hprev, hx⟩ := rxByteEffect_blk_of_not_completesFrame hopen
  have hcount := received_rxByteEffect_le K byte b
  rw [hx, setSer_ser] at hcount
  exact ⟨x, hx, hprev, hcount⟩

/-- Fewer bytes than a frame in progress still needs end no frame. -/
theorem receive_of_too_few {K : Config} (bytes : List Byte) (b : Block)
    (hlen : b.ser.received + bytes.length < 2 * (K.nSlots + 1)) : ∃ x, receive K b bytes = b.setSer x := by
  induction bytes generalizing b with
  | nil => exact ⟨b.ser, rfl⟩
  | cons byte bytes ih =>
    rw [List.length_cons] at hlen
    obtain ⟨x, hx, -, hcount⟩ := rxByteEffect_before_frameEnd (K := K) (b := b) byte (by omega)
    obtain ⟨y, hy⟩ := ih (b.setSer x) (by rw [setSer_ser]; omega)
    exact ⟨y, by rw [receive_cons, hx, hy, setSer_setSer]⟩

/-- Just enough bytes for a frame in progress end no frame if a marker occurs among them. -/
theorem receive_of_hasMarker {K : Config} {bytes : List Byte} (b : Block)
    (hlen : b.ser.received + bytes.length ≤ 2 * (K.nSlots + 1)) (hmark : hasMarker K b.ser.prev bytes = true) :
    ∃ x, receive K b bytes = b.setSer x := by
  induction bytes generalizing b with
  | nil => exact nomatch hmark
  | cons byte bytes ih =>
    rw [List.length_cons] at hlen
    rcases (hasMarker_cons_iff K _ byte bytes).1 hmark with hm | hrest
    case inl =>
      have hzero : (markerStep K byte b).blk.ser.received = 0 := rfl
      obtain ⟨y, hy⟩ := receive_of_too_few (K := K) bytes (markerStep K byte b).blk (by omega)
      exact ⟨y, by rw [receive_cons, rxByteEffect_of_marker hm, hy, markerStep, setSer_setSer]⟩
    case inr =>
      have hne : 0 < bytes.length := List.length_pos_of_ne_nil fun hnil => by rw [hnil] at hrest; exact nomatch hrest
      obtain ⟨x, hx, hprev, hcount⟩ := rxByteEffect_before_frameEnd (K := K) (b := b) byte (by omega)
      obtain ⟨y, hy⟩ := ih (b.setSer x) (by rw [setSer_ser]; omega) (by rw [setSer_ser, hprev, hrest])
      exact ⟨y, by rw [receive_cons, hx, hy, setSer_setSer]⟩

/-! ## A frame without a marker after its own (rules R110, R174, R178) -/

/-- The slot of a channel (rule R11). -/
def slotOf (K : Config) : Channel → Nat
  | .ch1 => K.slotCh1
  | .ch2 => K.slotCh2

theorem slotOf_bounds {K : Config} (hK : K.Admitted) (ch : Channel) : 1 ≤ slotOf K ch ∧ slotOf K ch ≤ K.nSlots := by
  obtain ⟨-, h1, h2⟩ := admitted_slots hK
  cases ch
  · exact h1
  · exact h2

/-- The decoder has read these slots of a frame, and no more: the position is behind them, their bytes have left the
accumulator, and each channel whose slot is among them has its value staged (rules R41 to R43). -/
structure SerialFrameState.HasRead (K : Config) (slots : List Half) (x : SerialFrameState) : Prop where
  mode : x.mode = .extract
  pos : x.pos.toNat = 2 * slots.length
  acc : x.acc = checksumOf K (payloadBytes slots)
  stage : ∀ ch, slotOf K ch ≤ slots.length → x.stage ch = slots.getD (slotOf K ch - 1) 0

/-- After a marker, no slot has been read. -/
theorem hasRead_markerStep {K : Config} (hK : K.Admitted) (byte : Byte) (b : Block) :
    (markerStep K byte b).blk.ser.HasRead K [] where
  mode := rfl
  pos := rfl
  acc := by
    show BitVec.ofNat 16 K.ckSeed = _
    rw [checksumOf, show byteSum (payloadBytes []) = 0 from rfl, Int.natCast_zero, Int.sub_zero, BitVec.ofInt_natCast]
  stage ch hle := absurd hle (by have := slotOf_bounds hK ch; simp only [List.length_nil]; omega)

/-- The checksum of a payload with one more slot takes the slot's bytes from the accumulator (rules R111, R174). -/
theorem checksumOf_append_slot (K : Config) (slots : List Half) (v : Half) :
    checksumOf K (payloadBytes (slots ++ [v]))
      = checksumOf K (payloadBytes slots) - (lowByte v).setWidth 16 - (highByte v).setWidth 16 := by
  have hsum : byteSum (payloadBytes (slots ++ [v]))
      = byteSum (payloadBytes slots) + (lowByte v).toNat + (highByte v).toNat := by
    rw [payloadBytes, List.flatMap_append, byteSum_append, Nat.add_assoc]
    simp [payloadBytes, byteSum]
  have hmore := toNat_checksumOf K (payloadBytes (slots ++ [v]))
  have hold := toNat_checksumOf K (payloadBytes slots)
  have hsub := toNat_sub_bytes (checksumOf K (payloadBytes slots)) (lowByte v) (highByte v)
  apply BitVec.eq_of_toNat_eq
  omega

/-- The slots' values by slot number, which counts from 1, after one more slot. -/
theorem getD_append_slot {slots : List Half} {k : Nat} (v : Half) (hlo : 1 ≤ k) (hhi : k ≤ slots.length + 1) :
    (slots ++ [v]).getD (k - 1) 0 = if slots.length + 1 = k then v else slots.getD (k - 1) 0 := by
  split_ifs with hlast
  · subst hlast
    simp
  · rw [List.getD_append _ _ _ _ (by omega)]

theorem stage_slotStep (K : Config) (k : Nat) (v : Half) (byte : Byte) (b : Block) (ch : Channel) :
    (slotStep K k v byte b).blk.ser.stage ch = if k = slotOf K ch then v else b.ser.stage ch := by
  cases ch <;> rfl

/-- The first byte of a pair moves the position and the window (rule R173). -/
def SerialFrameState.takeFirst (byte : Byte) (x : SerialFrameState) : SerialFrameState :=
  { x with pos := x.pos + 1, prev := byte }

section ReadSlots

variable {K : Config} (hK : K.Admitted) {b : Block} {slots : List Half} (h : b.ser.HasRead K slots)
include hK h

/-- The byte behind the slots read is the first of a pair. -/
theorem SerialFrameState.HasRead.rxByteEffect_blk {byte : Byte} (hlen : slots.length ≤ K.nSlots)
    (hm : ¬ (b.ser.prev.toNat = K.sync0 ∧ byte.toNat = K.sync1)) :
    (rxByteEffect K byte b).blk = b.setSer (b.ser.takeFirst byte)
      ∧ (b.ser.takeFirst byte).pos.toNat = 2 * slots.length + 1 := by
  have hend := (Nat.mul_le_mul_left 2 (Nat.succ_le_succ hlen)).trans_lt (frameEnd_lt hK)
  have hpos := h.pos
  rw [rxByteEffect_firstByte hm h.mode (by omega)]
  exact ⟨rfl, (toNat_pos_succ_of_lt (by omega)).trans (by rw [hpos])⟩

/-- The two bytes of the next slot, neither of which completes a marker. -/
theorem SerialFrameState.HasRead.receive_slot {v : Half} (hlen : slots.length < K.nSlots)
    (hlow : ¬ (b.ser.prev.toNat = K.sync0 ∧ (lowByte v).toNat = K.sync1))
    (hhigh : ¬ ((lowByte v).toNat = K.sync0 ∧ (highByte v).toNat = K.sync1)) :
    ∃ x : SerialFrameState, receive K b [lowByte v, highByte v] = b.setSer x ∧ x.prev = highByte v
      ∧ x.HasRead K (slots ++ [v]) := by
  obtain ⟨hfirst, hpos⟩ := h.rxByteEffect_blk hK hlen.le hlow
  have hsecond := rxByteEffect_slot (b := b.setSer (b.ser.takeFirst (lowByte v))) (k := slots.length + 1) hhigh hK h.mode
    (by rw [setSer_ser, hpos]; rfl) hlen
  refine ⟨(rxByteEffect K (highByte v) (b.setSer (b.ser.takeFirst (lowByte v)))).blk.ser, ?blk, ?prev, ?read⟩
  case blk => rw [receive_cons, hfirst, receive_cons, receive_nil, hsecond]; rfl
  case prev => rw [hsecond]; rfl
  case read =>
    rw [hsecond]
    refine ⟨h.mode, ?pos, ?acc, fun ch hle => ?stage⟩
    case pos =>
      have hend := (Nat.mul_le_mul_left 2 (Nat.succ_le_succ hlen.le)).trans_lt (frameEnd_lt hK)
      refine (toNat_pos_succ_of_lt (pos := (b.ser.takeFirst (lowByte v)).pos) (by omega)).trans ?_
      rw [hpos, List.length_append, List.length_singleton]
      rfl
    case acc =>
      rw [checksumOf_append_slot, ← h.acc]
      rfl
    case stage =>
      rw [List.length_append, List.length_singleton] at hle
      rw [stage_slotStep, getD_append_slot v (slotOf_bounds hK ch).1 hle]
      split_ifs with hslot
      · exact littleEndian_lowByte_highByte v
      · have hkept : (b.ser.takeFirst (lowByte v)).stage ch = b.ser.stage ch := by cases ch <;> rfl
        exact hkept.trans (h.stage ch (by omega))

end ReadSlots

/-- The bytes of the next slots, which complete no marker and leave none to the bytes behind them. -/
theorem receive_payloadBytes {K : Config} (hK : K.Admitted) {b : Block} {done : List Half} (slots : List Half)
    (behind : List Byte) (h : b.ser.HasRead K done) (hlen : done.length + slots.length ≤ K.nSlots)
    (hmark : hasMarker K b.ser.prev (payloadBytes slots ++ behind) = false) :
    ∃ x : SerialFrameState, receive K b (payloadBytes slots) = b.setSer x ∧ x.HasRead K (done ++ slots)
      ∧ hasMarker K x.prev behind = false := by
  induction slots generalizing b done with
  | nil => exact ⟨b.ser, rfl, by rwa [List.append_nil], hmark⟩
  | cons v slots ih =>
    rw [payloadBytes_cons, List.cons_append, List.cons_append, hasMarker_cons_eq_false_iff,
      hasMarker_cons_eq_false_iff] at hmark
    obtain ⟨hlow, hhigh, hrest⟩ := hmark
    rw [List.length_cons] at hlen
    obtain ⟨x, hx, hprev, hread⟩ := h.receive_slot hK (by omega) hlow hhigh
    obtain ⟨y, hy, hdone, hbehind⟩ := ih (b := b.setSer x) (done := done ++ [v]) hread
      (by rw [List.length_append, List.length_singleton]; omega) (by rw [setSer_ser, hprev, hrest])
    refine ⟨y, ?_, by rwa [List.append_assoc, List.singleton_append] at hdone, hbehind⟩
    calc receive K b (payloadBytes (v :: slots))
        = receive K (receive K b [lowByte v, highByte v]) (payloadBytes slots) := rfl
      _ = b.setSer y := by rw [hx, hy, setSer_setSer]

/-- The marker begins a frame, whatever byte the searching decoder held before it (rule R171). -/
theorem receive_markerBytes {K : Config} (hK : K.Admitted) {b : Block} (hmode : b.ser.mode = .search) :
    ∃ x : SerialFrameState, receive K b (markerBytes K) = b.setSer x ∧ x.HasRead K []
      ∧ x.prev = BitVec.ofNat 8 K.sync1 := by
  have hsync : K.sync0 ≤ 255 ∧ K.sync1 ≤ 255 := by
    obtain ⟨-, -, -, -, -, -, -, -, -, hsync, -⟩ := hK
    exact hsync
  obtain ⟨y, hy, hprev, -⟩ := rxByteEffect_before_frameEnd (K := K) (b := b) (BitVec.ofNat 8 K.sync0)
    (by rw [received_of_search hmode]; omega)
  have hmarker : (b.setSer y).ser.prev.toNat = K.sync0 ∧ (BitVec.ofNat 8 K.sync1).toNat = K.sync1 := by
    rw [setSer_ser, hprev, BitVec.toNat_ofNat, BitVec.toNat_ofNat]
    omega
  refine ⟨_, ?_, hasRead_markerStep hK (BitVec.ofNat 8 K.sync1) (b.setSer y), rfl⟩
  rw [markerBytes, receive_cons, hy, receive_cons, receive_nil, rxByteEffect_of_marker hmarker]
  rfl

/-- The bytes of a frame but for the last one. -/
def frameInit (K : Config) (field : Half) (slots : List Half) : List Byte :=
  markerBytes K ++ payloadBytes slots ++ [lowByte field]

theorem frameWith_eq (K : Config) (field : Half) (slots : List Half) :
    frameWith K field slots = frameInit K field slots ++ [highByte field] := by
  rw [frameWith, frameInit, List.append_assoc _ [lowByte field]]
  rfl

theorem length_frameInit (K : Config) (field : Half) (slots : List Half) :
    (frameInit K field slots).length = 2 * slots.length + 3 := by
  have hlen := length_frameWith K field slots
  rw [frameWith_eq, List.length_append, List.length_singleton] at hlen
  omega

/-- The next byte is the last of a frame with these slots and this checksum field, and completes no marker. -/
structure SerialFrameState.AwaitsLast (K : Config) (field : Half) (slots : List Half) (x : SerialFrameState) :
    Prop where
  mode : x.mode = .extract
  pos : x.pos.toNat + 1 = 2 * (K.nSlots + 1)
  prev : x.prev = lowByte field
  acc : x.acc = checksumOf K (payloadBytes slots)
  stage : ∀ ch, x.stage ch = slots.getD (slotOf K ch - 1) 0
  noMarker : ¬ (x.prev.toNat = K.sync0 ∧ (highByte field).toNat = K.sync1)

theorem receive_frameInit {K : Config} (hK : K.Admitted) {b : Block} (field : Half) {slots : List Half}
    (hmode : b.ser.mode = .search) (hlen : slots.length = K.nSlots)
    (hmark : hasMarker K (BitVec.ofNat 8 K.sync1) ((frameWith K field slots).drop 2) = false) :
    ∃ x : SerialFrameState, receive K b (frameInit K field slots) = b.setSer x ∧ x.AwaitsLast K field slots := by
  rw [drop_two_frameWith] at hmark
  obtain ⟨x, hx, hnone, hprev⟩ := receive_markerBytes hK hmode
  obtain ⟨y, hy, hread, hmark⟩ := receive_payloadBytes hK (b := b.setSer x) slots [lowByte field, highByte field] hnone
    (by rw [List.length_nil, Nat.zero_add, hlen]) (by rw [setSer_ser, hprev, hmark])
  rw [List.nil_append] at hread
  rw [hasMarker_cons_eq_false_iff, hasMarker_cons_eq_false_iff] at hmark
  obtain ⟨hlow, hhigh, -⟩ := hmark
  obtain ⟨hfirst, hpos⟩ := hread.rxByteEffect_blk hK (b := b.setSer y) hlen.le hlow
  refine ⟨y.takeFirst (lowByte field), ?blk, hread.mode, ?pos, rfl, hread.acc, fun ch => ?stage, hhigh⟩
  case blk =>
    rw [frameInit, receive_append, receive_append, hx, hy, setSer_setSer, receive_cons, receive_nil, hfirst,
      setSer_setSer, setSer_ser]
  case pos => rw [← hlen]; exact congrArg (· + 1) hpos
  case stage =>
    have hkept : (y.takeFirst (lowByte field)).stage ch = y.stage ch := by cases ch <;> rfl
    exact hkept.trans (hread.stage ch (by rw [hlen]; exact (slotOf_bounds hK ch).2))

/-! ## The outcome of a frame (rules R175 to R181) -/

section LastByte

variable {K : Config} (hK : K.Admitted) {b : Block} {field : Half} {slots : List Half}
  (h : b.ser.AwaitsLast K field slots)
include hK h

theorem SerialFrameState.AwaitsLast.rxByteEffect_wrong (hne : field ≠ checksumOf K (payloadBytes slots)) :
    rxByteEffect K (highByte field) b =
      { blk := b.setSer (b.ser.endFrame K (highByte field))
        raised := [.checksumMismatch field (checksumOf K (payloadBytes slots))] } := by
  have hfield : littleEndian b.ser.prev (highByte field) = field := by rw [h.prev, littleEndian_lowByte_highByte]
  rw [rxByteEffect_wrongChecksum h.noMarker hK h.mode h.pos (by rwa [hfield, h.acc]), hfield, h.acc]

theorem SerialFrameState.AwaitsLast.rxByteEffect_right (heq : field = checksumOf K (payloadBytes slots)) :
    (rxByteEffect K (highByte field) b).blk
      = handover (updateCycle K (commitFrame K (b.setSer (b.ser.endFrame K (highByte field))))) := by
  have hfield : littleEndian b.ser.prev (highByte field) = b.ser.acc := by
    rw [h.prev, littleEndian_lowByte_highByte, h.acc, heq]
  rw [rxByteEffect_rightChecksum h.noMarker hK h.mode h.pos hfield]

end LastByte

/-- A wrong frame writes the serial frame state alone: a marker in it starts the count of its bytes again, and without
one its checksum field fails (rules R175, R180, R181). -/
theorem receive_wrongFrame {K : Config} (hK : K.Admitted) {b : Block} {field : Half} {slots : List Half}
    (hmode : b.ser.mode = .search) (hlen : slots.length = K.nSlots)
    (hne : field ≠ checksumOf K (payloadBytes slots)) :
    ∃ x, receive K b (frameWith K field slots) = b.setSer x := by
  cases hmark : hasMarker K (BitVec.ofNat 8 K.sync1) ((frameWith K field slots).drop 2) with
  | true =>
    rw [drop_two_frameWith] at hmark
    obtain ⟨x, hx, hnone, hprev⟩ := receive_markerBytes hK hmode
    have hreceived : x.received = 0 := (received_of_extract hnone.mode).trans hnone.pos
    have hbytes : (payloadBytes slots ++ [lowByte field, highByte field]).length = 2 * (K.nSlots + 1) := by
      rw [List.length_append, length_payloadBytes, hlen]
      rfl
    obtain ⟨y, hy⟩ := receive_of_hasMarker (b.setSer x) (by rw [setSer_ser, hreceived, Nat.zero_add]; exact hbytes.le)
      (by rw [setSer_ser, hprev, hmark])
    exact ⟨y, by rw [frameWith, List.append_assoc, receive_append, hx, hy, setSer_setSer]⟩
  | false =>
    obtain ⟨x, hx, hlast⟩ := receive_frameInit hK field hmode hlen hmark
    refine ⟨x.endFrame K (highByte field), ?_⟩
    rw [frameWith_eq, receive_append, hx, receive_cons, receive_nil,
      hlast.rxByteEffect_wrong hK (b := b.setSer x) hne, setSer_setSer, setSer_ser]

/-- The run of a frame's words (rules R110, R115). -/
theorem run_frameWith {s : State} {field : Half} {slots : List Half} {rest : List EventWord} (hK : s.cfg.Admitted)
    (hready : s.platformReady = true) (hlen : slots.length = s.cfg.nSlots)
    (hevents : s.events = byteWords (frameWith s.cfg field slots) ++ rest) :
    Host.Core.run Sys2Proof.core (2 * s.cfg.nSlots + 4) s = .next
      { s with
        blk := receive s.cfg s.blk (frameWith s.cfg field slots)
        events := rest
        eventIndex := s.eventIndex + (2 * s.cfg.nSlots + 4)
        trace := s.trace ++ receiveEntries s.cfg s.eventIndex s.blk (frameWith s.cfg field slots) } := by
  have hrun := run_byteWords _ hK hready hevents
  rwa [length_frameWith, hlen] at hrun

/-- Settles O27: the whole frame writes the serial frame state alone (`receive_wrongFrame`); without a marker after its
own, its last byte is the one whose checksum comparison fails. -/
theorem invalidFrameUpdatesNothing : Obligations.InvalidFrameUpdatesNothing := by
  intro s field slots rest hK hready hmode hlen hne hevents
  refine ⟨_, run_frameWith hK hready hlen hevents, rfl, ?block, fun hmark => ?last⟩
  case block =>
    obtain ⟨x, hx⟩ := receive_wrongFrame hK hmode hlen hne
    dsimp only
    rw [hx]
    exact sameOutsideSerial_setSer s.blk x
  case last =>
    obtain ⟨x, hx, hlast⟩ := receive_frameInit hK field hmode hlen hmark
    have heffect := hlast.rxByteEffect_wrong hK (b := s.blk.setSer x) hne
    dsimp only
    rw [frameWith_eq, receive_append, receiveEntries_append, hx, receive_cons, receive_nil, receiveEntries,
      receiveEntries, heffect, length_frameInit, hlen]
    exact ⟨rfl, by simp [Effect.entries]⟩

/-- Settles O26: the last byte commits the frame (`AwaitsLast.rxByteEffect_right`), whose staged values are the mapped
slots. -/
theorem validFrameUpdatesBothChannels : Obligations.ValidFrameUpdatesBothChannels := by
  intro s slots rest hK hready hmode hlen hmark hevents
  obtain ⟨x, hx, hlast⟩ := receive_frameInit hK _ hmode hlen hmark
  have hblk : receive s.cfg s.blk (frameBytes s.cfg slots) = handover (updateCycle s.cfg (commitFrame s.cfg
      (s.blk.setSer (x.endFrame s.cfg (highByte (checksumOf s.cfg (payloadBytes slots))))))) := by
    rw [frameBytes, frameWith_eq, receive_append, hx, receive_cons, receive_nil,
      hlast.rxByteEffect_right hK (b := s.blk.setSer x) rfl, setSer_setSer, setSer_ser]
  have hchan : ∀ ch, (receive s.cfg s.blk (frameBytes s.cfg slots)).chan ch
      = acceptedInput s.cfg (slots.getD (slotOf s.cfg ch - 1) 0) (s.blk.chan ch).armed := by
    intro ch
    rw [hblk, handover_commitFrame_chan, setSer_ser, setSer_chan, endFrame_stage, hlast.stage]
  have hcap : ∀ ch, (receive s.cfg s.blk (frameBytes s.cfg slots)).cap ch = s.blk.cap ch := by
    intro ch
    rw [hblk, handover_cap, updateCycle_cap, commitFrame_cap, setSer_cap]
  refine ⟨_, run_frameWith hK hready hlen hevents, rfl, rfl, rfl, rfl, ?channels, ?outputs⟩
  case channels =>
    intro ch w hw
    have hslot : slots.getD (slotOf s.cfg ch - 1) 0 = w := by rw [hw]; cases ch <;> rfl
    dsimp only
    rw [← frameBytes, hchan, hcap, toInt_acceptedInput_value hK, hslot]
    exact ⟨rfl, rfl, rfl, rfl⟩
  case outputs =>
    dsimp only
    rw [← frameBytes, hblk]
    exact ⟨rfl, rfl, rfl, rfl, hlast.acc⟩

end Sys2Proof.Machine

/-! The signal validator (42_validator.md): its stages in order, and the range of its value. -/

namespace Sys2Proof.Machine

/-- Settles O7: in each stage of `validate_cases`, the conditions with inclusive bounds choose that stage's answer. -/
theorem validatorStages : Obligations.ValidatorStages := by
  intro K w armed
  rcases validate_cases K w armed with ⟨hout, hv⟩ | ⟨hlo, hhi, hun, hoff, hv⟩ | ⟨hlo, hhi, hpass, hv⟩ <;> rw [hv]
  case inl => rw [if_pos (by omega)]
  case inr.inl =>
    have hgate : ¬ (armed = true ∨ (K.neutralMin ≤ w.toNat ∧ w.toNat ≤ K.neutralMax)) := by
      rintro (harmed | hneutral)
      · exact absurd (harmed.symm.trans hun) (by decide)
      · omega
    rw [if_neg (not_not_intro ⟨hlo, hhi⟩), if_neg hgate]
  case inr.inr => rw [if_neg (not_not_intro ⟨hlo, hhi⟩), if_pos hpass]

/-- Settles O8: the channel holds the value in 16 bits unchanged (`toInt_acceptedInput_value`), and what a channel
holds lies in the command range (`acceptedInput_ok`). -/
theorem validatorValueFits : Obligations.ValidatorValueFits := by
  intro K w armed hK
  have hfits := toInt_acceptedInput_value hK w armed
  obtain ⟨hlo, hhi⟩ := (acceptedInput_ok hK w armed).valueRange
  rw [hfits] at hlo hhi
  exact ⟨hlo, hhi, hfits⟩

end Sys2Proof.Machine

/-! The mixing engine (43_mixer.md): its two modes, and where the bound of R233 on the motor commands holds. -/

namespace Sys2Proof.Machine

theorem mix_independent {K : Config} (h : K.mixMode = .independent) (c1 c2 : Int) :
    mix K c1 c2 = { mA := c1, mB := c2 } := by
  rw [mix, h]

theorem mix_differential {K : Config} (h : K.mixMode = .differential) (c1 c2 : Int) :
    mix K c1 c2 = { mA := c1 + c2, mB := c1 - c2 } := by
  rw [mix, h]

/-- In either mode, and under any configuration, the two values' magnitudes together bound each command. -/
theorem natAbs_mix_le (K : Config) (c1 c2 : Int) :
    (mix K c1 c2).mA.natAbs ≤ c1.natAbs + c2.natAbs ∧ (mix K c1 c2).mB.natAbs ≤ c1.natAbs + c2.natAbs := by
  cases hmode : K.mixMode with
  | independent =>
    rw [mix_independent hmode]
    exact ⟨Nat.le_add_right _ _, Nat.le_add_left _ _⟩
  | differential =>
    rw [mix_differential hmode]
    exact ⟨Int.natAbs_add_le c1 c2, Int.natAbs_sub_le c1 c2⟩

theorem toInt_ofInt_of_natAbs_le {m : Int} (h : m.natAbs ≤ 32767) : (BitVec.ofInt 16 m).toInt = m :=
  BitVec.toInt_ofInt_eq_self (by decide) (by omega) (by omega)

/-- Settles O10: in a range symmetric about `CENTER` each value is at most half the range's span in magnitude, so the
two together (`natAbs_mix_le`) are at most the span, which R13 keeps within 16 bits. -/
theorem mixIsExactAndBounded : Obligations.MixIsExactAndBounded := by
  intro K c1 c2 hK hlo1 hhi1 hlo2 hhi2
  refine ⟨fun hmode => ?independent, fun hmode => ?differential, fun hsymm => ?bounded⟩
  case independent => rw [mix_independent hmode]; exact ⟨rfl, rfl⟩
  case differential => rw [mix_differential hmode]; exact ⟨rfl, rfl⟩
  case bounded =>
    obtain ⟨hrange, hspan, -⟩ := hK
    have hc1 : c1.natAbs ≤ K.rangeMax - K.center := by omega
    have hc2 : c2.natAbs ≤ K.center - K.rangeMin := by omega
    obtain ⟨hA, hB⟩ := natAbs_mix_le K c1 c2
    have hboundA := hA.trans (Nat.add_le_add hc1 hc2)
    have hboundB := hB.trans (Nat.add_le_add hc1 hc2)
    exact ⟨hboundA, hboundB, toInt_ofInt_of_natAbs_le (hboundA.trans hspan),
      toInt_ofInt_of_natAbs_le (hboundB.trans hspan)⟩

/-- An admitted command range that is not symmetric about `CENTER`: 100 below it, 700 above. -/
def lopsidedConfig : Config := { Config.tc with rangeMin := 1400 }

theorem lopsidedConfig_admitted : lopsidedConfig.Admitted := by decide

theorem mix_lopsidedConfig : mix lopsidedConfig 700 700 = { mA := 1400, mB := 0 } := mix_differential rfl 700 700

/-- Refutes O11: with `RANGE_MIN` 1400 the bound is 100 + 700, and both channels at the top of the range add up to a
motor A command of 1400. -/
theorem not_mixBoundHoldsForEveryRange : ¬ Obligations.MixBoundHoldsForEveryRange := by
  intro hbound
  obtain ⟨hA, -⟩ := hbound lopsidedConfig 700 700 lopsidedConfig_admitted (by decide) (by decide) (by decide) (by decide)
  rw [mix_lopsidedConfig] at hA
  exact absurd hA (by decide)

end Sys2Proof.Machine

/-! The output driver (44_output.md): the direction flags, the duty map's three ranges and its growth over them, and
the polarity of the pins. -/

namespace Sys2Proof.Machine

/-! ## The direction flags (rules R250, R251) -/

/-- A motor is stopped exactly inside the deadband (rule R251). -/
theorem drive_stopped_iff (K : Config) (t : Int) :
    ((drive K t).fwd = false ∧ (drive K t).rev = false) ↔ t.natAbs ≤ K.outDb := by
  simp only [drive, ← Bool.not_eq_true, forwardFlag_iff, reverseFlag_iff]
  omega

/-- Settles O12: the flags are the two strict comparisons. -/
theorem directionFlagsExclusive : Obligations.DirectionFlagsExclusive :=
  fun K t => ⟨forwardFlag_iff K t, reverseFlag_iff K t, drive_not_both K t, drive_stopped_iff K t⟩

theorem forwardFlag_neg (K : Config) (t : Int) : forwardFlag K (-t) = reverseFlag K t := by
  rw [Bool.eq_iff_iff, forwardFlag_iff, reverseFlag_iff]
  omega

theorem reverseFlag_neg (K : Config) (t : Int) : reverseFlag K (-t) = forwardFlag K t := by
  rw [← forwardFlag_neg, neg_neg]

/-- Settles O15: the duty depends on the magnitude alone, and the deadband is symmetric about 0. -/
theorem driveOfOppositeCommandSwapsFlags : Obligations.DriveOfOppositeCommandSwapsFlags := by
  intro K t
  simp only [drive, Int.natAbs_neg, forwardFlag_neg, reverseFlag_neg]

/-! ## The ranges of the duty map (rules R252, R253)

Up to the deadband, `dutyMap_of_le_outDb` gives its value. -/

theorem admitted_outDb_lt_tMax {K : Config} (hK : K.Admitted) : K.outDb + 1 < K.tMax := by
  obtain ⟨-, -, ⟨hlt, -⟩, -⟩ := hK
  exact hlt

theorem dutyMap_of_tMax_le {K : Config} {a : Nat} (hdb : K.outDb < a) (ha : K.tMax ≤ a) :
    dutyMap K a = K.dutyMax := by
  rw [dutyMap, if_neg (Nat.not_le.2 hdb), if_pos ha]

theorem dutyMap_of_interior {K : Config} {a : Nat} (hdb : K.outDb < a) (ha : a < K.tMax) :
    dutyMap K a = interiorDuty K a := by
  rw [dutyMap, if_neg (Nat.not_le.2 hdb), if_neg (Nat.not_le.2 ha)]

/-- The interpolated duty is at most `DUTY_MAX`, so 16 bits hold it whole. -/
theorem toNat_interiorDuty_interpolated {K : Config} (hK : K.Admitted) (hshape : K.dutyShape = .interpolated) {a : Nat}
    (ha : a < K.tMax) : (interiorDuty K a).toNat = interpolatedDuty K a := by
  obtain ⟨-, hduty, -⟩ := admitted_duty hK
  obtain ⟨-, hmax⟩ := interpolatedDuty_bounds hduty ha
  rw [interiorDuty, hshape]
  exact Nat.mod_eq_of_lt (hmax.trans_lt K.dutyMax.isLt)

/-- Settles O14, range by range. -/
theorem dutyMapInterpolatesRoundingDown : Obligations.DutyMapInterpolatesRoundingDown := by
  intro K a hK hshape
  by_cases hdb : a ≤ K.outDb
  · rw [if_pos hdb, dutyMap_of_le_outDb hdb]; rfl
  · rw [if_neg hdb]
    by_cases ha : K.tMax ≤ a
    · rw [if_pos ha, dutyMap_of_tMax_le (Nat.lt_of_not_le hdb) ha]
    · rw [if_neg ha, dutyMap_of_interior (Nat.lt_of_not_le hdb) (Nat.lt_of_not_le ha),
        toNat_interiorDuty_interpolated hK hshape (Nat.lt_of_not_le ha)]
      rfl

/-! ## The two shapes between the deadband and `T_MAX` (rules R252, R253) -/

/-- An admitted table starts at `DUTY_MIN` and its entries do not decrease. -/
theorem table_head_and_monotone {K : Config} {vs : List Half} (hshape : K.dutyShape = .table vs)
    (hok : K.dutyShapeOk = true) :
    vs.head? = some K.dutyMin ∧ vs.Pairwise (fun v w => v.toNat ≤ w.toNat) := by
  simp only [Config.dutyShapeOk, hshape, Bool.and_eq_true, decide_eq_true_eq] at hok
  obtain ⟨⟨⟨-, hhead⟩, -⟩, hmono⟩ := hok
  exact ⟨hhead, hmono⟩

theorem interpolatedDuty_first (K : Config) : interpolatedDuty K (K.outDb + 1) = K.dutyMin.toNat := by
  rw [interpolatedDuty, Nat.sub_self, Nat.zero_mul, Nat.zero_div, Nat.add_zero]

/-- Rounding down keeps the order of the exact interpolation. -/
theorem interpolatedDuty_mono (K : Config) {a c : Nat} (hac : a ≤ c) : interpolatedDuty K a ≤ interpolatedDuty K c :=
  Nat.add_le_add_left (Nat.div_le_div_right (Nat.mul_le_mul_right _ (Nat.sub_le_sub_right hac _))) _

/-- (P2) of rule R253. -/
theorem interiorDuty_first {K : Config} (hK : K.Admitted) : interiorDuty K (K.outDb + 1) = K.dutyMin := by
  cases hshape : K.dutyShape with
  | interpolated =>
    apply BitVec.eq_of_toNat_eq
    rw [toNat_interiorDuty_interpolated hK hshape (admitted_outDb_lt_tMax hK), interpolatedDuty_first]
  | table vs =>
    obtain ⟨hhead, -⟩ := table_head_and_monotone hshape (admitted_dutyShapeOk hK)
    obtain ⟨rest, rfl⟩ := List.head?_eq_some_iff.1 hhead
    rw [interiorDuty, hshape, Nat.sub_self]
    rfl

/-- (P4) of rule R253, short of `T_MAX`. -/
theorem interiorDuty_mono {K : Config} (hK : K.Admitted) {a c : Nat} (hdb : K.outDb < a) (hac : a ≤ c)
    (hc : c < K.tMax) : (interiorDuty K a).toNat ≤ (interiorDuty K c).toNat := by
  cases hshape : K.dutyShape with
  | interpolated =>
    rw [toNat_interiorDuty_interpolated hK hshape (hac.trans_lt hc), toNat_interiorDuty_interpolated hK hshape hc]
    exact interpolatedDuty_mono K hac
  | table vs =>
    have hok := admitted_dutyShapeOk hK
    obtain ⟨-, hmono⟩ := table_head_and_monotone hshape hok
    have hlen := length_table hshape hok
    rcases hac.eq_or_lt with rfl | hlt
    · exact le_rfl
    · simp only [interiorDuty, hshape]
      rw [List.getD_eq_getElem vs K.dutyMax (by omega), List.getD_eq_getElem vs K.dutyMax (by omega)]
      exact List.pairwise_iff_getElem.1 hmono _ _ _ _ (by omega)

/-! ## The four points of rule R253 -/

/-- (P4) of rule R253: at `T_MAX` the duty is the greatest there is, and below it the interior does not decrease. -/
theorem dutyMap_mono {K : Config} (hK : K.Admitted) {a c : Nat} (hdb : K.outDb < a) (hac : a ≤ c) (hc : c ≤ K.tMax) :
    (dutyMap K a).toNat ≤ (dutyMap K c).toNat := by
  rcases hc.eq_or_lt with rfl | hlt
  · rw [dutyMap_of_tMax_le (hdb.trans_le hac) le_rfl]
    exact dutyMap_le_dutyMax hK a
  · rw [dutyMap_of_interior hdb (hac.trans_lt hlt), dutyMap_of_interior (hdb.trans_le hac) hlt]
    exact interiorDuty_mono hK hdb hac hlt

/-- Settles O13, a point at a time. -/
theorem dutyMapMeetsItsFourPoints : Obligations.DutyMapMeetsItsFourPoints := by
  intro K hK
  have hrange := admitted_outDb_lt_tMax hK
  refine ⟨fun a => dutyMap_of_le_outDb, ?first, fun a ha => ?last, fun a hdb _ => dutyMap_bounds hK hdb,
    fun a c => dutyMap_mono hK⟩
  case first => rw [dutyMap_of_interior (Nat.lt_succ_self _) hrange, interiorDuty_first hK]
  case last => exact dutyMap_of_tMax_le (by omega) ha

/-! ## The pins (rules R255, R256) -/

/-- The level of a pin whose flag is `flag`: an active-low line carries the opposite (rule R255). -/
theorem xor_polarity (flag inverted : Bool) : xor flag inverted = if inverted then !flag else flag := by
  cases inverted with
  | false => exact Bool.xor_false flag
  | true => exact Bool.xor_true flag

/-- Settles O17: four pins of one form, and the two duties as they are. -/
theorem pinsFollowPolarity : Obligations.PinsFollowPolarity :=
  fun _ _ => ⟨xor_polarity _ _, xor_polarity _ _, xor_polarity _ _, xor_polarity _ _, rfl, rfl⟩

end Sys2Proof.Machine

/-! The supervisor (45_supervisor.md): the tick and the watchdog clock, where an update cycle runs, a silent watchdog
window, and the loss of signal. -/

namespace Sys2Proof.Machine

/-! ## The tick and the watchdog clock (rules R284 to R287) -/

/-- Settles O32: the tick's effect is the block itself. -/
theorem tickChangesNothing : Obligations.TickChangesNothing :=
  fun s => exec_of_quiet_effect (s := s) (i := .tick) rfl

theorem wdtClockEffect_of_below {K : Config} {b : Block}
    (hbelow : ∀ limit, K.wdtLimit = some limit → b.wdt + 1 < limit) :
    wdtClockEffect K b = { blk := { b with wdt := b.wdt + 1 } } := by
  rcases wdtClockEffect_cases K b with ⟨⟨limit, hlimit, hle⟩, -⟩ | ⟨-, he⟩
  · exact absurd (hbelow limit hlimit) (Nat.not_lt.2 hle)
  · exact he

theorem wdtClockEffect_of_reached {K : Config} {b : Block} {limit : Nat} (hlimit : K.wdtLimit = some limit)
    (hle : limit ≤ b.wdt + 1) : wdtClockEffect K b = { blk := Block.reset K, raised := [.watchdogTimeout] } := by
  rcases wdtClockEffect_cases K b with ⟨-, he⟩ | ⟨hbelow, -⟩
  · exact he
  · exact absurd (hbelow limit hlimit) (Nat.not_lt.2 hle)

/-- Below a finite limit it is enough to compare with that limit. -/
theorem forall_limit_of_some {K : Config} {limit count : Nat} (hlimit : K.wdtLimit = some limit)
    (hlt : count < limit) : ∀ l, K.wdtLimit = some l → count < l :=
  fun _ hl => Option.some.inj (hlimit.symm.trans hl) ▸ hlt

/-- Settles O33: the clock counts below the limit (`wdtClockEffect_of_below`) and resets at it
(`wdtClockEffect_of_reached`). -/
theorem watchdogClockCountsOrResets : Obligations.WatchdogClockCountsOrResets := by
  intro s limit hlimit
  split
  case isTrue hlt => exact exec_of_quiet_effect (wdtClockEffect_of_below (forall_limit_of_some hlimit hlt))
  case isFalse hge => exact exec_of_effect (wdtClockEffect_of_reached hlimit (Nat.not_lt.1 hge))

/-- Settles O34: every count is below an infinite limit. -/
theorem infiniteWatchdogNeverResets : Obligations.InfiniteWatchdogNeverResets := by
  intro s hnone
  exact exec_of_quiet_effect (wdtClockEffect_of_below fun _ hlimit => absurd (hnone.symm.trans hlimit) nofun)

/-! ## A silent watchdog window (rules R284, R285, R288) -/

/-- The word of `WDT_CLOCK` (rules R101, R104). -/
theorem decode_clockWord (K : Config) : decode K 0x40000000#32 = .ok .wdtClock :=
  (decode_eq_ok_iff K _ _).2 ⟨by decide, rfl⟩

/-- The state after `n` clocks that stay below the limit, with the words `rest` still to come. -/
def State.afterClocks (s : State) (n : Nat) (rest : List EventWord) : State :=
  { s with
    blk := { s.blk with wdt := s.blk.wdt + n }
    events := rest
    eventIndex := s.eventIndex + n }

/-- The state after the clock that reaches the limit, with the words `rest` still to come. -/
def State.afterTimeout (s : State) (rest : List EventWord) : State :=
  { s with
    blk := Block.reset s.cfg
    events := rest
    eventIndex := s.eventIndex + 1
    trace := s.trace ++ s.raisedNow [.watchdogTimeout] }

theorem afterClocks_zero {s : State} {rest : List EventWord} (hevents : s.events = rest) :
    s.afterClocks 0 rest = s := by
  subst hevents
  rfl

theorem afterClocks_afterClocks (s : State) (n m : Nat) (words rest : List EventWord) :
    (s.afterClocks n words).afterClocks m rest = s.afterClocks (n + m) rest := by
  simp only [State.afterClocks, Nat.add_assoc]

section SilentWindow

variable {s : State} {limit : Nat} {rest : List EventWord} (hK : s.cfg.Admitted) (hready : s.platformReady = true)
  (hlimit : s.cfg.wdtLimit = some limit)
include hK hready hlimit

theorem step_clockWord_of_below (hevents : s.events = 0x40000000#32 :: rest) (hlt : s.blk.wdt + 1 < limit) :
    step s = .next (s.afterClocks 1 rest) := by
  rw [step_of_decoded hK hready hevents (decode_clockWord s.cfg), effectOf,
    wdtClockEffect_of_below (forall_limit_of_some hlimit hlt), State.afterEvent, Effect.entries, List.map_nil,
    Option.map_none, Option.toList_none, List.append_nil, List.append_nil]
  rfl

theorem step_clockWord_of_reached (hevents : s.events = 0x40000000#32 :: rest) (hle : limit ≤ s.blk.wdt + 1) :
    step s = .next (s.afterTimeout rest) := by
  rw [step_of_decoded hK hready hevents (decode_clockWord s.cfg), effectOf, wdtClockEffect_of_reached hlimit hle]
  rfl

/-- Clocks that all stay below the limit are as many steps, whatever runs after them. -/
theorem run_clockWords_below (n m : Nat) (hevents : s.events = List.replicate n 0x40000000#32 ++ rest)
    (hlt : s.blk.wdt + n < limit) :
    Host.Core.run Sys2Proof.core (n + m) s = Host.Core.run Sys2Proof.core m (s.afterClocks n rest) := by
  induction n generalizing s with
  | zero => rw [Nat.zero_add, afterClocks_zero (rest := rest) hevents]
  | succ n ih =>
    have hstep := step_clockWord_of_below hK hready hlimit (rest := List.replicate n 0x40000000#32 ++ rest) hevents
      (by omega)
    have hlt' : s.blk.wdt + 1 + n < limit := by omega
    have hrun := ih (s := s.afterClocks 1 (List.replicate n 0x40000000#32 ++ rest)) hK hready hlimit rfl hlt'
    rw [Nat.succ_add, run_succ_of_next _ hstep, hrun, afterClocks_afterClocks, Nat.add_comm 1]

/-- The clock that reaches the limit, and `n` more that count on from the reset. -/
theorem run_clockWords_reached {n : Nat} (hevents : s.events = List.replicate (n + 1) 0x40000000#32 ++ rest)
    (hle : limit ≤ s.blk.wdt + 1) (hlt : n < limit) :
    Host.Core.run Sys2Proof.core (n + 1) s = .next ((s.afterTimeout rest).afterClocks n rest) := by
  have hstep := step_clockWord_of_reached hK hready hlimit (rest := List.replicate n 0x40000000#32 ++ rest) hevents hle
  have hlt' : 0 + n < limit := by rwa [Nat.zero_add]
  rw [run_succ_of_next _ hstep]
  exact run_clockWords_below (s := s.afterTimeout _) hK hready hlimit n 0 rfl hlt'

end SilentWindow

/-- Settles O35: the clocks before the limit count, the next one resets, and as many as the old count are left to
count on from the reset. -/
theorem silentWindowResetsTheBlock : Obligations.SilentWindowResetsTheBlock := by
  intro s limit rest hK hready hlimit hlt hevents
  obtain ⟨before, rfl⟩ : ∃ before, limit = before + (s.blk.wdt + 1) := ⟨limit - (s.blk.wdt + 1), by omega⟩
  rw [List.replicate_add, List.append_assoc] at hevents
  have hcount := run_clockWords_below hK hready hlimit before (s.blk.wdt + 1) hevents (by omega)
  have hle : before + (s.blk.wdt + 1) ≤ s.blk.wdt + before + 1 := by omega
  have hreset := run_clockWords_reached (s := s.afterClocks before _) (rest := rest) hK hready hlimit rfl hle hlt
  refine ⟨_, hcount.trans hreset, rfl, ?blk, rfl, ?timeout⟩
  case blk => exact congrArg (fun n => { Block.reset s.cfg with wdt := n }) (Nat.zero_add s.blk.wdt)
  case timeout => exact ⟨_, List.mem_append_right _ (List.mem_singleton_self _), rfl, Nat.le_add_right _ _⟩

/-! ## Where an update cycle runs (rules R281 to R283) -/

/-- What an update cycle leaves in the fields it writes (rules R280, R282, R283). -/
structure Block.JustCycled (K : Config) (b : Block) : Prop where
  wdt : b.wdt = 0
  latch : b.latch = cycleLatch K b.chan1.value.toInt b.chan2.value.toInt
  armedCount : b.armedCount = armedTotal b.chan1.armed b.chan2.armed

theorem justCycled_updateCycle (K : Config) (b : Block) : (updateCycle K b).JustCycled K := ⟨rfl, rfl, rfl⟩

theorem justCycled_handover {K : Config} {b : Block} (h : b.JustCycled K) : (handover b).JustCycled K := { h with }

/-- `c` has the latch, the armed count and the channel records of `b`, and its count is `n` higher. -/
structure Block.KeepsOutputs (n : Nat) (b c : Block) : Prop where
  latch : c.latch = b.latch
  armedCount : c.armedCount = b.armedCount
  chan1 : c.chan1 = b.chan1
  chan2 : c.chan2 = b.chan2
  wdt : c.wdt = b.wdt + n

theorem keepsOutputs_refl (b : Block) : b.KeepsOutputs 0 b := ⟨rfl, rfl, rfl, rfl, rfl⟩

theorem keepsOutputs_setCap (b : Block) (ch : Channel) (x : CaptureUnit) : b.KeepsOutputs 0 (b.setCap ch x) :=
  ⟨setCap_latch b ch x, setCap_armedCount b ch x, setCap_chan1 b ch x, setCap_chan2 b ch x, setCap_wdt b ch x⟩

theorem keepsOutputs_setSer (b : Block) (x : SerialFrameState) : b.KeepsOutputs 0 (b.setSer x) :=
  ⟨rfl, rfl, rfl, rfl, rfl⟩

theorem keepsOutputs_count (b : Block) : b.KeepsOutputs 1 { b with wdt := b.wdt + 1 } := ⟨rfl, rfl, rfl, rfl, rfl⟩

theorem keepsOutputs_edgeRise (ch : Channel) (ts : Stamp) (b : Block) :
    b.KeepsOutputs 0 (edgeRiseEffect ch ts b).blk := by
  rcases edgeRiseEffect_cases ch ts b with ⟨c, he⟩ | he <;> rw [he]
  case inl => exact keepsOutputs_refl b
  case inr => exact keepsOutputs_setCap b ch _

/-- A falling edge that passes both gates runs an update cycle; another one writes nothing. -/
theorem edgeFallEffect_blk_cases (K : Config) (ch : Channel) (ts : Stamp) (b : Block) :
    (runsCycle K (.edgeFall ch ts) b ∧ (edgeFallEffect K ch ts b).blk = updateCycle K (measurePulse K ch ts b))
    ∨ (¬ runsCycle K (.edgeFall ch ts) b ∧ (edgeFallEffect K ch ts b).blk = b) := by
  rcases captureGate_cases ch .falling b with ⟨hdis, hg⟩ | ⟨-, hsel, hg⟩ | ⟨hen, hsel, -⟩
  case inl => exact .inr ⟨fun h => absurd (hdis.symm.trans h.1) (by decide), by rw [edgeFallEffect, hg]⟩
  case inr.inl => exact .inr ⟨fun h => hsel h.2, by rw [edgeFallEffect, hg]⟩
  case inr.inr => exact .inl ⟨⟨hen, hsel⟩, edgeFallEffect_blk_of_selected K ts hen hsel⟩

/-- An event runs an update cycle, resets the block, or keeps the outputs and the channels; a watchdog clock that
keeps them counts. -/
theorem effectOf_outputs_cases (K : Config) (i : Instr) (b : Block) :
    (runsCycle K i b ∧ ¬ resetsBlock K i b ∧ (effectOf K i b).blk.JustCycled K)
    ∨ (¬ runsCycle K i b ∧ resetsBlock K i b ∧ (effectOf K i b).blk = Block.reset K)
    ∨ (¬ runsCycle K i b ∧ ¬ resetsBlock K i b
      ∧ b.KeepsOutputs (if i = .wdtClock then 1 else 0) (effectOf K i b).blk) := by
  cases i with
  | edgeRise ch ts => exact .inr (.inr ⟨id, id, keepsOutputs_edgeRise ch ts b⟩)
  | edgeFall ch ts =>
    rcases edgeFallEffect_blk_cases K ch ts b with ⟨hruns, he⟩ | ⟨hnot, he⟩ <;> rw [effectOf, he]
    · exact .inl ⟨hruns, id, justCycled_updateCycle K _⟩
    · exact .inr (.inr ⟨hnot, id, keepsOutputs_refl b⟩)
  | rxByte byte =>
    obtain ⟨x, -, ⟨hnot, he⟩ | ⟨hends, he⟩⟩ := rxByteEffect_blk_cases K byte b <;> rw [effectOf, he]
    · exact .inr (.inr ⟨hnot, id, keepsOutputs_setSer b x⟩)
    · exact .inl ⟨hends, id, justCycled_handover (justCycled_updateCycle K _)⟩
  | tick => exact .inr (.inr ⟨id, id, keepsOutputs_refl b⟩)
  | wdtClock =>
    rcases wdtClockEffect_cases K b with ⟨hreached, he⟩ | ⟨hbelow, he⟩ <;> rw [effectOf, he]
    · exact .inr (.inl ⟨id, hreached, rfl⟩)
    · exact .inr (.inr ⟨id, fun ⟨limit, hlimit, hle⟩ => Nat.not_lt.2 hle (hbelow limit hlimit), keepsOutputs_count b⟩)
  | snapshot => exact .inr (.inr ⟨id, id, keepsOutputs_refl b⟩)
  | reset => exact .inr (.inl ⟨id, trivial, rfl⟩)

/-- Settles O39, from the three things an event can do (`effectOf_outputs_cases`). -/
theorem updateCycleRunsExactlyWhereTriggered : Obligations.UpdateCycleRunsExactlyWhereTriggered := by
  intro i s
  refine ⟨_, exec_eq i s, sameRun_afterEvent s _, ?_⟩
  rw [afterEvent_blk]
  rcases effectOf_outputs_cases s.cfg i s.blk with ⟨hruns, hnot, hcycle⟩ | ⟨hnot, hresets, he⟩ | ⟨hnot, hkeep, h⟩
  case inl =>
    exact ⟨fun _ => ⟨hcycle.wdt, hcycle.latch, hcycle.armedCount⟩, fun h => absurd h hnot, fun h => absurd hruns h⟩
  case inr.inl => exact ⟨fun h => absurd h hnot, fun _ => he, fun _ h => absurd hresets h⟩
  case inr.inr =>
    exact ⟨fun hr => absurd hr hnot, fun hr => absurd hr hkeep,
      fun _ _ => ⟨h.latch, h.armedCount, h.chan1, h.chan2, h.wdt⟩⟩

/-! ## Loss of signal (rules R211, R250, R288) -/

theorem acceptedInput_of_outOfRange {K : Config} {w : Half} (armed : Bool)
    (hout : w.toNat < K.rangeMin ∨ K.rangeMax < w.toNat) :
    acceptedInput K w armed = { raw := w, value := 0, armed := false } := by
  rw [acceptedInput, validate, if_pos hout]
  rfl

theorem cycleLatch_zero (K : Config) : cycleLatch K 0 0 = stoppedLatch := by
  rw [cycleLatch, mix_zero, drive_zero]
  rfl

/-- With both channels unarmed and at 0, an update cycle stops both motors. -/
theorem updateCycle_of_stopped (K : Config) {b : Block}
    (h : ∀ ch, (b.chan ch).value = 0 ∧ (b.chan ch).armed = false) :
    (updateCycle K b).latch = stoppedLatch ∧ (updateCycle K b).armedCount = 0 := by
  obtain ⟨hvalue₁, harmed₁⟩ := h .ch1
  obtain ⟨hvalue₂, harmed₂⟩ := h .ch2
  rw [chan_ch1] at hvalue₁ harmed₁
  rw [chan_ch2] at hvalue₂ harmed₂
  rw [updateCycle_latch, updateCycle_armedCount, hvalue₁, hvalue₂, harmed₁, harmed₂]
  exact ⟨cycleLatch_zero K, rfl⟩

/-- Settles O46: the width disarms the edge's channel, the invariant has the other one at 0, and the update cycle
drives both. -/
theorem lostSignalStopsTheMotors : Obligations.LostSignalStopsTheMotors := by
  rintro s ch ts ⟨-, hinv⟩ hen hsel hothers hout
  have hstopped : ∀ ch', ((measurePulse s.cfg ch ts s.blk).chan ch').value = 0
      ∧ ((measurePulse s.cfg ch ts s.blk).chan ch').armed = false := by
    intro ch'
    by_cases hch : ch' = ch
    · rw [hch, measurePulse_chan_same, acceptedInput_of_outOfRange _ hout]
      exact ⟨rfl, rfl⟩
    · rw [measurePulse_chan_other s.cfg ts s.blk hch]
      exact ⟨hinv.unarmedZero ch' (hothers ch' hch), hothers ch' hch⟩
  obtain ⟨hlatch, hcount⟩ := updateCycle_of_stopped s.cfg hstopped
  exact ⟨_, exec_edgeFall_of_selected ts hen hsel, hlatch, hcount, rfl⟩

end Sys2Proof.Machine

/-! The diagnostic port (46_diagnostic_port.md): what a snapshot returns and leaves unchanged, and that two in a row
agree. -/

namespace Sys2Proof.Machine

/-! ## What a snapshot returns (rule R310) -/

@[simp] theorem snapshotEffect_blk (b : Block) : (snapshotEffect b).blk = b := rfl

@[simp] theorem snapshotEffect_entries (b : Block) (index : Nat) :
    (snapshotEffect b).entries index = [{ index := index, seen := .returned (snapshotOf b) }] := rfl

/-- A snapshot records the block's shared fields and writes nothing else. -/
theorem exec_snapshot (s : State) : exec .snapshot s =
    .next { s with trace := s.trace ++ [{ index := s.eventIndex, seen := .returned (snapshotOf s.blk) }] } := by
  rw [exec_eq, effectOf, State.afterEvent, snapshotEffect_blk, snapshotEffect_entries]

/-- Settles O36: the record of `exec_snapshot`, field by field. -/
theorem snapshotReturnsSharedFields : Obligations.SnapshotReturnsSharedFields := by
  intro s
  rw [exec_snapshot, snapshotOf]

/-! ## Two snapshots in a row (rule R311) -/

/-- The six latch fields of the record are the latch, read in one piece. -/
theorem snapshotOf_latch (b : Block) :
    OutputLatch.mk (snapshotOf b).dutyA (snapshotOf b).fwdA (snapshotOf b).revA
      (snapshotOf b).dutyB (snapshotOf b).fwdB (snapshotOf b).revB = b.latch := rfl

/-- The record of a good block state shows one whole cycle: its outputs are those of its own values (rules R288,
R311), and its armed count is that of its own flags (rule R283). -/
theorem snapshotOf_wholeCycle {K : Config} {b : Block} (hinv : b.Inv K) :
    OutputLatch.mk (snapshotOf b).dutyA (snapshotOf b).fwdA (snapshotOf b).revA
        (snapshotOf b).dutyB (snapshotOf b).fwdB (snapshotOf b).revB
      = cycleLatch K (snapshotOf b).value1.toInt (snapshotOf b).value2.toInt
    ∧ (snapshotOf b).armedCount = (snapshotOf b).armed1.toNat + (snapshotOf b).armed2.toNat :=
  ⟨(snapshotOf_latch b).trans hinv.latchCurrent, hinv.countLive.trans (armedTotal_eq _ _)⟩

/-- Settles O37: the first snapshot leaves the block to the second (`exec_snapshot`), so both record the same good
block state. -/
theorem snapshotsAreConsistent : Obligations.SnapshotsAreConsistent := by
  rintro s ⟨-, hinv⟩
  exact ⟨_, _, snapshotOf s.blk, exec_snapshot s, exec_snapshot _, rfl, rfl, snapshotOf_wholeCycle hinv⟩

end Sys2Proof.Machine

/-! Conditions, sources and contexts (60_exceptions.md): an event of a masked source, the foreground context, what a
step adds to the trace, and a step with no event waiting. -/

namespace Sys2Proof.Machine

/-! ## Masked sources (rules R334, R335) -/

/-- A capture source is enabled for a polarity exactly where an edge of that polarity passes the gate of rules R141 and
R142. -/
theorem sourceEnabled_capture_iff (b : Block) (pol : Edge) (ch : Channel) :
    sourceEnabled b (some pol) (.capture ch) = true ↔ captureGate ch pol b = none := by
  rw [captureGate_none_iff, sourceEnabled, Bool.and_eq_true, decide_eq_true_iff, Option.some_inj, eq_comm (a := pol)]

theorem code_of_captureGate {ch : Channel} {pol : Edge} {b : Block} {c : Condition}
    (hg : captureGate ch pol b = some c) : c.code = 0x07 ∨ c.code = 0x08 := by
  rcases captureGate_cases ch pol b with ⟨-, h⟩ | ⟨-, -, h⟩ | ⟨-, -, h⟩ <;> rw [h] at hg
  case inl => cases hg; exact .inl rfl
  case inr.inl => cases hg; exact .inr rfl
  case inr.inr => cases hg

/-- The gate stops an edge of a masked source with one of its two conditions. -/
theorem captureGate_of_masked {b : Block} {pol : Edge} {ch : Channel}
    (hmask : sourceEnabled b (some pol) (.capture ch) = false) :
    ∃ c, captureGate ch pol b = some c ∧ (c.code = 0x07 ∨ c.code = 0x08) := by
  have hstop : captureGate ch pol b ≠ none := by
    rw [Ne, ← sourceEnabled_capture_iff, hmask]
    decide
  obtain ⟨c, hg⟩ := Option.ne_none_iff_exists'.1 hstop
  exact ⟨c, hg, code_of_captureGate hg⟩

/-- An event of a capture source has a polarity, and where the gate stops that polarity it only adds the gate's
condition to the trace. -/
theorem exec_of_capture_source {i : Instr} {ch : Channel} (hsrc : sourceOf i = some (.capture ch)) :
    ∃ pol, polarityOf i = some pol ∧ ∀ (s : State) (c : Condition), captureGate ch pol s.blk = some c →
      exec i s = .next { s with trace := s.trace ++ s.raisedNow [c] } := by
  cases i with
  | edgeRise _ ts => cases hsrc; exact ⟨.rising, rfl, fun _ _ hg => exec_edgeRise_of_gate ts hg⟩
  | edgeFall _ ts => cases hsrc; exact ⟨.falling, rfl, fun _ _ hg => exec_edgeFall_of_gate ts hg⟩
  | rxByte _ => cases hsrc
  | tick => cases hsrc
  | wdtClock => cases hsrc
  | snapshot => cases hsrc
  | reset => cases hsrc

/-- Nothing but the capture sources can be masked (rule R335). -/
theorem capture_of_masked {b : Block} {pol : Option Edge} {src : Source} (hmask : sourceEnabled b pol src = false) :
    ∃ ch, src = .capture ch := by
  cases src with
  | capture ch => exact ⟨ch, rfl⟩
  | serialReceiver => cases hmask
  | tickSource => cases hmask
  | watchdogTimebase => cases hmask
  | resetInput => cases hmask

/-- Settles O41: a masked source is a capture source, and the gate stops its edge (`captureGate_of_masked`). -/
theorem maskedSourcesChangeNothing : Obligations.MaskedSourcesChangeNothing := by
  intro i s src hsrc hmask
  obtain ⟨ch, rfl⟩ := capture_of_masked hmask
  obtain ⟨pol, hpol, hexec⟩ := exec_of_capture_source hsrc
  rw [hpol] at hmask
  obtain ⟨c, hg, hcode⟩ := captureGate_of_masked hmask
  exact ⟨⟨ch, rfl⟩, _, c, hexec s c hg, rfl, ⟨rfl, rfl, rfl, rfl, rfl⟩, rfl, hcode⟩

/-! ## The foreground context (rules R50, R343) -/

/-- The foreground issues `SNAPSHOT` and no other event. -/
theorem contextOf_eq_foreground_iff (i : Instr) : contextOf i = .foreground ↔ i = .snapshot := by
  cases i <;> simp [contextOf]

/-- Settles O42: a snapshot writes the trace only (`exec_snapshot`). -/
theorem foregroundNeverWrites : Obligations.ForegroundNeverWrites := by
  intro i s hctx
  obtain rfl := (contextOf_eq_foreground_iff i).1 hctx
  exact ⟨_, exec_snapshot s, rfl, ⟨rfl, rfl, rfl, rfl, rfl⟩⟩

/-! ## The reserved condition (rules R112, R331)

No operation that raises conditions raises the reserved one. -/

theorem code_eq_five_iff (c : Condition) : c.code = 0x05 ↔ c = .malformedPair := by
  cases c <;> simp [Condition.code]

theorem malformedPair_not_mem_gate {ch : Channel} {pol : Edge} {b : Block} {c : Condition}
    (hg : captureGate ch pol b = some c) : Condition.malformedPair ∉ [c] := by
  intro hmem
  obtain rfl := List.mem_singleton.1 hmem
  rcases code_of_captureGate hg with h | h <;> exact absurd h (by decide)

theorem malformedPair_not_mem_acceptRaises (K : Config) (ch : Channel) (w : Half) (b : Block) :
    Condition.malformedPair ∉ acceptRaises K ch w b := by
  rw [acceptRaises]
  rcases validate_cases K w (b.chan ch).armed with ⟨-, hv⟩ | ⟨-, -, -, -, hv⟩ | ⟨-, -, -, hv⟩ <;> rw [hv] <;> simp

theorem malformedPair_not_mem_commitRaises (K : Config) (b : Block) : Condition.malformedPair ∉ commitRaises K b := by
  rw [commitRaises, List.mem_append, not_or]
  exact ⟨malformedPair_not_mem_acceptRaises K _ _ _, malformedPair_not_mem_acceptRaises K _ _ _⟩

theorem malformedPair_not_mem_edgeRise (ch : Channel) (ts : Stamp) (b : Block) :
    Condition.malformedPair ∉ (edgeRiseEffect ch ts b).raised := by
  unfold edgeRiseEffect
  cases hg : captureGate ch .rising b with
  | none => exact List.not_mem_nil
  | some c => exact malformedPair_not_mem_gate hg

theorem malformedPair_not_mem_edgeFall (K : Config) (ch : Channel) (ts : Stamp) (b : Block) :
    Condition.malformedPair ∉ (edgeFallEffect K ch ts b).raised := by
  unfold edgeFallEffect
  cases hg : captureGate ch .falling b with
  | none => exact malformedPair_not_mem_acceptRaises K ch _ b
  | some c => exact malformedPair_not_mem_gate hg

theorem malformedPair_not_mem_checksumStep (K : Config) (v : Half) (byte : Byte) (b : Block) :
    Condition.malformedPair ∉ (checksumStep K v byte b).raised := by
  by_cases hv : v = b.ser.acc
  · rw [checksumStep_match hv]
    exact malformedPair_not_mem_commitRaises K _
  · rw [checksumStep_mismatch hv]
    simp

theorem malformedPair_not_mem_markerStep (K : Config) (byte : Byte) (b : Block) :
    Condition.malformedPair ∉ (markerStep K byte b).raised := by
  rw [markerStep]
  cases b.ser.mode <;> simp

theorem malformedPair_not_mem_rxByte (K : Config) (byte : Byte) (b : Block) :
    Condition.malformedPair ∉ (rxByteEffect K byte b).raised := by
  rcases rxByteEffect_cases K byte b with ⟨-, he⟩ | ⟨-, -, he⟩ | ⟨-, -, he⟩ <;> rw [he]
  case inl => exact malformedPair_not_mem_markerStep K byte b
  case inr.inl => simp [searchStep]
  case inr.inr =>
    rcases extractStep_cases K byte b with ⟨-, he⟩ | ⟨-, -, he⟩ | ⟨-, -, he⟩ <;> rw [he]
    case inl => exact List.not_mem_nil
    case inr.inl => exact List.not_mem_nil
    case inr.inr => exact malformedPair_not_mem_checksumStep K _ byte _

theorem malformedPair_not_mem_wdtClock (K : Config) (b : Block) :
    Condition.malformedPair ∉ (wdtClockEffect K b).raised := by
  rcases wdtClockEffect_cases K b with ⟨-, he⟩ | ⟨-, he⟩ <;> rw [he] <;> simp

theorem malformedPair_not_mem_effectOf (K : Config) (i : Instr) (b : Block) :
    Condition.malformedPair ∉ (effectOf K i b).raised := by
  cases i with
  | edgeRise ch ts => exact malformedPair_not_mem_edgeRise ch ts b
  | edgeFall ch ts => exact malformedPair_not_mem_edgeFall K ch ts b
  | rxByte byte => exact malformedPair_not_mem_rxByte K byte b
  | tick => exact List.not_mem_nil
  | wdtClock => exact malformedPair_not_mem_wdtClock K b
  | snapshot => exact List.not_mem_nil
  | reset => exact List.not_mem_nil

/-! ## What a step adds to the trace (rule R331) -/

/-- A condition among an effect's entries is one the effect raises. -/
theorem mem_raised_of_mem_entries {e : Effect} {n : Nat} {x : TraceEntry} {c : Condition} (hx : x ∈ e.entries n)
    (hc : x.seen = .raised c) : c ∈ e.raised := by
  rw [Effect.entries, List.mem_append, List.mem_map, Option.mem_toList, Option.map_eq_some_iff] at hx
  rcases hx with ⟨d, hd, rfl⟩ | ⟨r, -, rfl⟩
  · cases hc; exact hd
  · cases hc

/-- Settles O43: a wait adds nothing, an event adds its effect's entries (`entries_index`,
`malformedPair_not_mem_effectOf`), and a refused word adds its refusal, which is no condition. -/
theorem traceGrowsByThisEvent : Obligations.TraceGrowsByThisEvent := by
  intro s t h
  obtain ⟨-, ⟨-, rfl⟩ | ⟨w, rest, i, -, -, -, rfl⟩ | ⟨w, rest, e, -, -, -, rfl⟩⟩ := step_next_cases h
  case inl => exact ⟨[], (List.append_nil _).symm, nofun⟩
  case inr.inl =>
    refine ⟨(effectOf s.cfg i s.blk).entries s.eventIndex, rfl, fun x hx => ⟨entries_index hx, fun c hc h5 => ?_⟩⟩
    obtain rfl := (code_eq_five_iff c).1 h5
    exact malformedPair_not_mem_effectOf s.cfg i s.blk (mem_raised_of_mem_entries hx hc)
  case inr.inr => exact ⟨[_], rfl, List.forall_mem_singleton.2 ⟨rfl, nofun⟩⟩

/-! ## A step with no event waiting (rules R348, R372) -/

/-- Under an admitted configuration a step takes the next event. -/
theorem step_of_admitted {s : State} (hK : s.cfg.Admitted) : step s = takeEvent s := if_pos hK

/-- Settles O50: with nothing to fetch, taking the next event is a wait. -/
theorem waitKeepsTheState : Obligations.WaitKeepsTheState := by
  intro s hK hevents
  rw [step_of_admitted hK, takeEvent, fetch_nil hevents]

end Sys2Proof.Machine

/-! Reset and hazards (70_reset_and_hazards.md): the reset event, an event before boot, and the bytes of an in-range
frame, which hold no marker after the frame's own. -/

namespace Sys2Proof.Machine

/-! ## Reset and boot (rules R370, R373) -/

/-- Settles O38: the reset's effect is the reset block, whose fields are the values of rule R52. -/
theorem resetLeavesEveryResetValue : Obligations.ResetLeavesEveryResetValue :=
  fun s => exec_of_quiet_effect (s := s) (i := .reset) rfl

/-- Settles O52: a fetched word at a platform that is not ready is not processed. -/
theorem eventBeforeBootFaults : Obligations.EventBeforeBootFaults := by
  intro s w rest hK hready hevents
  rw [step_of_admitted hK, takeEvent, fetch_cons hevents]
  exact if_neg (by rw [hready]; decide)

/-! ## In-range frames (rules R180, R379)

A marker inside a frame needs a high byte: as its first byte, before the next slot's low byte, or as its second byte,
after the same slot's low byte. -/

theorem payloadBytes_append (xs ys : List Half) : payloadBytes (xs ++ ys) = payloadBytes xs ++ payloadBytes ys :=
  List.flatMap_append

/-- After its marker, a frame is the bytes of its slots and of one value more, the checksum field. -/
theorem drop_two_frameBytes (K : Config) (slots : List Half) :
    (frameBytes K slots).drop 2 = payloadBytes (slots ++ [checksumOf K (payloadBytes slots)]) := by
  rw [frameBytes, drop_two_frameWith, payloadBytes_append]
  rfl

/-- Values whose high bytes are no marker bytes spell no marker, where none has begun before them. -/
theorem hasMarker_payloadBytes_eq_false {K : Config} {prev : Byte} (vs : List Half) (hprev : prev.toNat ≠ K.sync0)
    (hhigh : ∀ v ∈ vs, (highByte v).toNat ≠ K.sync0 ∧ (highByte v).toNat ≠ K.sync1) :
    hasMarker K prev (payloadBytes vs) = false := by
  induction vs generalizing prev with
  | nil => rfl
  | cons v vs ih =>
    obtain ⟨⟨hfirst, hsecond⟩, hrest⟩ := List.forall_mem_cons.1 hhigh
    rw [payloadBytes_cons, hasMarker_cons_eq_false_iff, hasMarker_cons_eq_false_iff]
    exact ⟨fun hm => hprev hm.1, fun hm => hsecond hm.2, ih hfirst hrest⟩

/-- Settles O30: an in-range slot has a high byte from 0x03 to 0x08, and the checksum one of at least 0xE4. -/
theorem inRangeDefaultFrameHoldsNoMarker : Obligations.InRangeDefaultFrameHoldsNoMarker := by
  intro slots hlen hrange
  have hck := defaultChecksumNeverSpellsMarker slots hlen
  have hsync0 : Config.tc.sync0 = 0x20 := rfl
  have hsync1 : Config.tc.sync1 = 0x40 := rfl
  rw [drop_two_frameBytes]
  refine hasMarker_payloadBytes_eq_false _ (by decide) ?_
  rw [hsync0, hsync1]
  refine List.forall_mem_append.2 ⟨fun v hv => ?slot, List.forall_mem_singleton.2 ?checksum⟩
  case slot =>
    obtain ⟨hlo, hhi⟩ := hrange v hv
    rw [toNat_highByte]
    omega
  case checksum => omega

end Sys2Proof.Machine
